-- ==== Sys2Proof/Word.lean ====
section
/-! DEFINITION. The bit vectors the spec names: a byte of the packet, of the data bus or of the serial
line (R20, R58), and the ten-bit word the LCD sees at one enable pulse (R84). -/

namespace Sys2Proof

/-- Eight bits, bit 7 the most significant (R13). -/
abbrev Byte := BitVec 8

/-- The `LCDBUS` word `RS, RW, DB[7:0]`, `RS` most significant (R84). -/
abbrev BusWord := BitVec 10

end Sys2Proof
end

