-- ==== Sys2Proof/Config.lean ====
section
/-! DEFINITION. The constants the source fixes (R8), the parameters it leaves open (R9), and the values
nothing fixes: what the environment's agents answer and what the registers hold at reset. -/

namespace Sys2Proof

/-- `PKT_LEN`: bytes in a CommandPacket (R8). -/
def pktLen : Nat := 4

/-- `DB_W`: width of the data bus and of a status byte (R8). -/
def dbWidth : Nat := 8

/-- `BUSY_BIT`: index of the busy flag in a status byte (R8, R86). -/
def busyBit : Nat := 7

/-- `DEC_BASE`: radix of writeInteger (R8). -/
def decBase : Nat := 10

/-- `BAUD`: the serial line's rate (R8, R172), a figure no rule of the model depends on (R196). -/
def baud : Nat := 115200

/-- The oversampling ratio of the serial line (R8, R172), likewise of no effect (R196). -/
def oversampling : Nat := 16

/-- `TOP`: where the sequencer's operations come from (R9, R141, R142). -/
inductive Top where
  /-- the fixed stream MAIN (R141) -/
  | autonomous
  /-- a host that presents request words (R142) -/
  | hosted
  deriving DecidableEq, Repr

/-- `fmt` of the display view (R158). -/
inductive LcdFmt where
  | unset | eightBit | eightBitTwoLine5x7
  deriving DecidableEq, Repr, Inhabited

/-- Which block agent takes the next step (R10, R11). -/
inductive Turn where
  /-- the foreground sequencer -/
  | seq
  /-- the receive agent, for the byte that has arrived -/
  | rx (b : Byte)
  deriving DecidableEq, Repr, Inhabited

/-- The parameters of R9. -/
structure Config where
  top     : Top
  /-- `T_PULSE`: the delay fence inside every enable pulse, ms -/
  tPulse  : Nat
  /-- `T_INIT_1`: delay after the first 0x30, ms -/
  tInit1  : Nat
  /-- `T_INIT_2`: delay after the second 0x30, ms -/
  tInit2  : Nat
  /-- `T_INIT_0`: optional delay before the first 0x30, ms -/
  tInit0  : Option Nat
  /-- `T_INIT_3`: optional delay after the third 0x30, ms -/
  tInit3  : Option Nat
  /-- `INTW`: width of writeInteger's operand -/
  intw    : Nat
  /-- `LCD_COLS`: characters per display line, used only by the abstract display view -/
  lcdCols : Nat
  deriving DecidableEq, Repr

/-- The bounds R9 puts on its parameters. -/
abbrev Config.Wf (c : Config) : Prop := 4 ≤ c.intw ∧ 12 ≤ c.lcdCols

/-! ## Values nothing fixes

Every constant below is opaque: no proof can learn its value, so a claim that goes through one holds
for each value it could have. Log entries 3, 4, 5 and 9. -/

/-- `T_PULSE` of the default build, left OPEN by R9 (D12). -/
opaque Config.openTPulse : Nat
/-- `T_INIT_1` of the default build, left OPEN by R9 (D12). -/
opaque Config.openTInit1 : Nat
/-- `T_INIT_2` of the default build, left OPEN by R9 (D12). -/
opaque Config.openTInit2 : Nat
/-- How far `LCD_COLS` of the default build exceeds its least value 12, left OPEN by R9 (D28). -/
opaque Config.openExtraCols : Nat

/-- `PKT[i]` at reset: any value, drawn once (R36, D33). -/
opaque Config.resetPkt : Nat → Byte
/-- `DBO` at reset: unspecified (R36). -/
opaque Config.resetDbo : Byte
/-- `S` at reset: unspecified (R36). -/
opaque Config.resetStat : Byte
/-- `N` at reset, before it is cut to `INTW` bits: unspecified (R36). -/
opaque Config.resetN : Nat
/-- `I` at reset: unspecified (R36). -/
opaque Config.resetI : BitVec 4
/-- `V` at reset: unspecified (R36). -/
opaque Config.resetV : Byte

/-- The byte the LCD agent supplies at its `n`-th free answer to a status sample (R111, R157, D22). -/
opaque Config.lcdAnswer : Nat → Byte
/-- The bit TXHW supplies at its `n`-th free answer to a transmit-ready poll (R131, D32). -/
opaque Config.txAnswer : Nat → Bool
/-- Which block agent takes the `n`-th freely scheduled step (R11, R166). -/
opaque Config.freeTurn : Nat → Turn
/-- What the host presents at the `n`-th free opportunity: a request word or nothing (R142). -/
opaque Config.hostOffer : Nat → Option Nat

/-- `fmt`, `on`, `cursor_on` and `blink` of the view that follows the `n`-th unknown one: not stated (R159). -/
opaque Config.freeFmt : Nat → LcdFmt
opaque Config.freeOn : Nat → Bool
opaque Config.freeCursorOn : Nat → Bool
opaque Config.freeBlink : Nat → Bool

/-- The default build of R9. -/
def Config.default : Config where
  top     := .autonomous
  tPulse  := Config.openTPulse
  tInit1  := Config.openTInit1
  tInit2  := Config.openTInit2
  tInit0  := none
  tInit3  := none
  intw    := 32
  lcdCols := Config.openExtraCols + 12

end Sys2Proof
end

