-- ==== Sys2Proof/Syntax.lean ====
section
/-! DEFINITION. Instructions: one constructor for each row of spec/opcode_table.json. Eleven operations
and five reserved codes of the request word (R82, R92), the three LCD bus words (R85), the six LCD
command bytes (R87) and the receive event (R91). -/

namespace Sys2Proof

inductive Instr where
  -- OPREQ: the sequencer's operations (R82)
  /-- ready-wait (R111) -/
  | rdyw
  /-- command-send-immediate (R112) -/
  | cmdi (c : Byte)
  /-- command-send (R113) -/
  | cmd (c : Byte)
  /-- data-send (R114) -/
  | dat (d : Byte)
  /-- initializeDisplay (R120) -/
  | init
  /-- writeInteger (R122) -/
  | wint (n : Nat)
  /-- renderCommandScreen (R123) -/
  | rndr
  /-- one iteration of transmit's loop (R131) -/
  | txb (b : Byte)
  /-- transmit of the CommandPacket (R133) -/
  | xpkt
  /-- clear ReadyFlag (R134) -/
  | clrf
  /-- one Dispatch Loop iteration (R140) -/
  | disp
  -- OPREQ: reserved operation codes (R92)
  | reservedB
  | reservedC
  | reservedD
  | reservedE
  | reservedF
  -- LCDBUS: what the LCD sees at one enable pulse (R85)
  /-- write command byte `c` -/
  | lcdWrcmd (c : Byte)
  /-- write display-data byte `d` (R156) -/
  | lcdWrdata (d : Byte)
  /-- read status, the LCD supplying `s` (R157) -/
  | lcdRdstat (s : Byte)
  -- LCDCMD: the command bytes (R87)
  /-- 0x30 (R150) -/
  | fset8
  /-- 0x38 (R151) -/
  | fset8TwoLine
  /-- 0x06 (R152) -/
  | entryInc
  /-- 0x01 (R153) -/
  | clear
  /-- 0x0F (R154) -/
  | dispOnCb
  /-- 0xC0 (R155) -/
  | ddramL2
  -- RXEV: the step of the RX agent
  /-- receiveByte (R130) -/
  | rxb (b : Byte)
  deriving DecidableEq, Repr

/-- The formats of R80. -/
inductive Format where
  /-- the operation request word, `4 + INTW` bits (R81) -/
  | opreq
  /-- the ten-bit LCD bus word (R84) -/
  | lcdbus
  /-- the status byte (R86) -/
  | lcdstat
  /-- the LCD command byte (R87) -/
  | lcdcmd
  /-- the received byte (R91) -/
  | rxev
  deriving DecidableEq, Repr

/-- A word on one of the block's ports, in its format. -/
structure PortWord where
  format : Format
  bits   : Nat
  deriving DecidableEq, Repr

/-- Why a word decodes to no instruction. -/
inductive DecodeError where
  /-- the word has a bit above the ones its format has (R80) -/
  | tooWide
  /-- an `LCDBUS` word with `RS = 1, RW = 1`, which no operation generates (R93) -/
  | readOfDisplayData
  /-- a command byte that is none of the six of R87 -/
  | unnamedCommandByte
  deriving DecidableEq, Repr

end Sys2Proof
end

