-- ==== Sys2Proof/WellFormed.lean ====
section
/-! DEFINITION. An instruction is well formed for a width `INTW` when its operand fits the field that
carries it: the `arg` field of a request word has `INTW` bits (R81, R83); the byte of every other
format is a byte already. -/

namespace Sys2Proof

/-- The operand fits its field. -/
def Instr.wf (intw : Nat) : Instr → Bool
  | .cmdi c => c.toNat < 2 ^ intw
  | .cmd c => c.toNat < 2 ^ intw
  | .dat d => d.toNat < 2 ^ intw
  | .txb b => b.toNat < 2 ^ intw
  | .wint n => n < 2 ^ intw
  | .rdyw => true
  | .init => true
  | .rndr => true
  | .xpkt => true
  | .clrf => true
  | .disp => true
  | .reservedB => true
  | .reservedC => true
  | .reservedD => true
  | .reservedE => true
  | .reservedF => true
  | .lcdWrcmd _ => true
  | .lcdWrdata _ => true
  | .lcdRdstat _ => true
  | .fset8 => true
  | .fset8TwoLine => true
  | .entryInc => true
  | .clear => true
  | .dispOnCb => true
  | .ddramL2 => true
  | .rxb _ => true

end Sys2Proof
end

