-- ==== Sys2Proof/Decode.lean ====
section
/-! DEFINITION. Decoding of a word of each format (R80 to R87, R91), total and rejecting by name, then the
encoder written from the same tables. -/

namespace Sys2Proof

/-! ## The request word (R81 to R83) -/

/-- The `op` field with anything above it: bits `INTW` and up (R81). -/
def opField (intw w : Nat) : Nat := w / 2 ^ intw

/-- The `arg` field, `arg[INTW-1:0]` (R81). -/
def argField (intw w : Nat) : Nat := w % 2 ^ intw

/-- The byte operand `arg[7:0]`; the bits above it are ignored (R83). DESIGN CHOICE (log entry 19), unsafe: in a build
whose `arg` has fewer than 8 bits (`INTW` 4 to 7, which R9 allows) R83 does not say what `arg[7:0]` is; here the
missing bits are 0, so that a host of such a build can send only bytes below `2^INTW`. -/
def byteOperand (intw w : Nat) : Byte := BitVec.ofNat 8 (argField intw w)

/-- The operation codes of R82 and the reserved ones of R92. -/
def decodeOpreq (intw w : Nat) : Except DecodeError Instr :=
  match opField intw w with
  | 0x0 => .ok .rdyw
  | 0x1 => .ok (.cmdi (byteOperand intw w))
  | 0x2 => .ok (.cmd (byteOperand intw w))
  | 0x3 => .ok (.dat (byteOperand intw w))
  | 0x4 => .ok .init
  | 0x5 => .ok (.wint (argField intw w))
  | 0x6 => .ok .rndr
  | 0x7 => .ok (.txb (byteOperand intw w))
  | 0x8 => .ok .xpkt
  | 0x9 => .ok .clrf
  | 0xA => .ok .disp
  | 0xB => .ok .reservedB
  | 0xC => .ok .reservedC
  | 0xD => .ok .reservedD
  | 0xE => .ok .reservedE
  | 0xF => .ok .reservedF
  | _ => .error .tooWide

/-! ## The LCD's words (R84 to R87) and the received byte (R91) -/

/-- The `LCDBUS` word of two control lines and a data byte, `RS` most significant (R84). -/
def busWord (rs rw : Bool) (db : Byte) : BusWord :=
  BitVec.ofBool rs ++ BitVec.ofBool rw ++ db

/-- The three shapes of R85; the fourth is never generated (R93). -/
def decodeLcdbus (w : Nat) : Except DecodeError Instr :=
  match w / 2 ^ 8 with
  | 0 => .ok (.lcdWrcmd (BitVec.ofNat 8 w))
  | 1 => .ok (.lcdRdstat (BitVec.ofNat 8 w))
  | 2 => .ok (.lcdWrdata (BitVec.ofNat 8 w))
  | 3 => .error .readOfDisplayData
  | _ => .error .tooWide

/-- The six command bytes of R87. -/
def decodeLcdcmd (w : Nat) : Except DecodeError Instr :=
  match w with
  | 0x30 => .ok .fset8
  | 0x38 => .ok .fset8TwoLine
  | 0x06 => .ok .entryInc
  | 0x01 => .ok .clear
  | 0x0F => .ok .dispOnCb
  | 0xC0 => .ok .ddramL2
  | _ => if w < 2 ^ 8 then .error .unnamedCommandByte else .error .tooWide

/-- Any byte is a received byte (R91). -/
def decodeRxev (w : Nat) : Except DecodeError Instr :=
  if w < 2 ^ 8 then .ok (.rxb (BitVec.ofNat 8 w)) else .error .tooWide

/-- A status byte stands in `DB[7:0]` of a status read (R80, R86). -/
def decodeLcdstat (w : Nat) : Except DecodeError Instr :=
  if w < 2 ^ 8 then .ok (.lcdRdstat (BitVec.ofNat 8 w)) else .error .tooWide

/-- A decoder needs the word's format and, for a request word, its width (R96). -/
def decode (intw : Nat) (p : PortWord) : Except DecodeError Instr :=
  match p.format with
  | .opreq => decodeOpreq intw p.bits
  | .lcdbus => decodeLcdbus p.bits
  | .lcdstat => decodeLcdstat p.bits
  | .lcdcmd => decodeLcdcmd p.bits
  | .rxev => decodeRxev p.bits

/-! ## The encoder -/

/-- The request word of an operation code and an operand (R81). -/
def opreqWord (intw op arg : Nat) : PortWord := ⟨.opreq, op * 2 ^ intw + arg⟩

/-- The `LCDBUS` word of a shape's two lines and its byte (R85). -/
def lcdbusWord (rs rw : Bool) (db : Byte) : PortWord := ⟨.lcdbus, (busWord rs rw db).toNat⟩

/-- The word of a well-formed instruction; ignored bits are written as zeros (R83). -/
def encode (intw : Nat) : Instr → PortWord
  | .rdyw => opreqWord intw 0x0 0
  | .cmdi c => opreqWord intw 0x1 c.toNat
  | .cmd c => opreqWord intw 0x2 c.toNat
  | .dat d => opreqWord intw 0x3 d.toNat
  | .init => opreqWord intw 0x4 0
  | .wint n => opreqWord intw 0x5 n
  | .rndr => opreqWord intw 0x6 0
  | .txb b => opreqWord intw 0x7 b.toNat
  | .xpkt => opreqWord intw 0x8 0
  | .clrf => opreqWord intw 0x9 0
  | .disp => opreqWord intw 0xA 0
  | .reservedB => opreqWord intw 0xB 0
  | .reservedC => opreqWord intw 0xC 0
  | .reservedD => opreqWord intw 0xD 0
  | .reservedE => opreqWord intw 0xE 0
  | .reservedF => opreqWord intw 0xF 0
  | .lcdWrcmd c => lcdbusWord false false c
  | .lcdWrdata d => lcdbusWord true false d
  | .lcdRdstat s => lcdbusWord false true s
  | .fset8 => ⟨.lcdcmd, 0x30⟩
  | .fset8TwoLine => ⟨.lcdcmd, 0x38⟩
  | .entryInc => ⟨.lcdcmd, 0x06⟩
  | .clear => ⟨.lcdcmd, 0x01⟩
  | .dispOnCb => ⟨.lcdcmd, 0x0F⟩
  | .ddramL2 => ⟨.lcdcmd, 0xC0⟩
  | .rxb b => ⟨.rxev, b.toNat⟩

/-! ## The rows of the opcode table

The table gives a row as many bits as its format has, here rounded up to whole bytes: 36 to 40, 10 to
16, and 8. An eight-bit row is a command byte or a receive event; the six command bytes are read as
commands (log entry 12). The table draws request words for `INTW = 32` (R81). -/

/-- The formats a table row of `nbits` bits can have, in the order they are tried. -/
def tableFormats (nbits : Nat) : List Format :=
  if nbits = 8 then [.lcdcmd, .rxev]
  else if nbits = 10 ∨ nbits = 16 then [.lcdbus]
  else if nbits = 36 ∨ nbits = 40 then [.opreq]
  else []

/-- The first format that gives `w` an instruction, with that instruction. -/
def tableRow (w : Nat) : List Format → Option (PortWord × Instr)
  | [] => none
  | f :: fs =>
    match decode 32 ⟨f, w⟩ with
    | .ok i => some (⟨f, w⟩, i)
    | .error _ => tableRow w fs

/-- The instruction the decoder reads from the bits of a table row. -/
def decodeTableWord (nbits w : Nat) : Option Instr :=
  (tableRow w (tableFormats nbits)).map (·.2)

end Sys2Proof
end

