-- ==== Sys2Proof/Machine/State.lean ====
section
/-! DEFINITION. The machine's state as plain data: the elements of R20, and beside them the model's own
fields: the configuration (R35), what the environment's agents answer (R10, R35), the trace (R12) and
the LCD agent (R33, R158). The reset state (R36) and the reasons a step can stop. -/

namespace Sys2Proof.Machine

/-! ## The sequencer's frames (R32)

A frame is an operation, the label of one of its micro-steps, and the operation's private copy of `V`
where it has a byte operand. A label at a `call` line means that the called operation is in progress in
the frame above. -/

/-- The operations that can be a top-level operation, by name: the argument of `OpStart` and `OpDone`. -/
inductive OpName where
  | rdyw | cmdi | cmd | dat | init | wint | rndr | txb | xpkt | clrf | disp
  deriving DecidableEq, Repr

/-- Labels of RDYW (R111). -/
inductive RdywLbl where
  | w0 | w1 | w2 | w3 | w4 | w5 | w6 | w7 | w8
  deriving DecidableEq, Repr

/-- Labels of CMDI (R112). -/
inductive CmdiLbl where
  | c0 | c1 | c2 | c3 | c4 | c5
  deriving DecidableEq, Repr

/-- Labels of CMD (R113). -/
inductive CmdLbl where
  | k0 | k1 | k2 | k3 | k4 | k5 | k6
  deriving DecidableEq, Repr

/-- Labels of DAT (R114). -/
inductive DatLbl where
  | t0 | t1 | t2 | t3 | t4 | t5 | t6
  deriving DecidableEq, Repr

/-- Labels of INIT (R120). -/
inductive InitLbl where
  | i0 | i1 | i2 | i3 | i4 | i5 | i6 | i7 | i8 | i9 | i10
  deriving DecidableEq, Repr

/-- Labels of WINT (R122). `N0` and `N3` are internal and never held. -/
inductive WintLbl where
  | n1 | n2
  deriving DecidableEq, Repr

/-- Labels of RNDR (R123). -/
inductive RndrLbl where
  | d0 | d1 | d2a | d2b | d3
  deriving DecidableEq, Repr

/-- Labels of TXB (R131). -/
inductive TxbLbl where
  | x0 | x1
  deriving DecidableEq, Repr

/-- Labels of XPKT (R133). -/
inductive XpktLbl where
  | e0 | e1 | e2
  deriving DecidableEq, Repr

/-- Labels of DISP (R140). -/
inductive DispLbl where
  | l0 | l1 | l2 | l3
  deriving DecidableEq, Repr

/-- Labels of MAIN (R141). -/
inductive MainLbl where
  | m0 | m1
  deriving DecidableEq, Repr

/-- One frame of the sequencer's stack. CLRF has the one label `F0` (R134). -/
inductive Frame where
  | rdyw (l : RdywLbl)
  | cmdi (l : CmdiLbl) (v : Byte)
  | cmd (l : CmdLbl) (v : Byte)
  | dat (l : DatLbl) (v : Byte)
  | init (l : InitLbl)
  | wint (l : WintLbl)
  | rndr (l : RndrLbl)
  | txb (l : TxbLbl) (v : Byte)
  | xpkt (l : XpktLbl)
  | clrf
  | disp (l : DispLbl)
  | main (l : MainLbl)
  deriving DecidableEq, Repr

/-! ## Registers, lines, events -/

/-- The data bus's direction (R27): `inp` is the spec's `IN`, `out` its `OUT`. -/
inductive Dir where
  | inp | out
  deriving DecidableEq, Repr

/-- The CommandPacket: four byte registers with a two-bit index (R21, R51). -/
structure Packet where
  p0 : Byte
  p1 : Byte
  p2 : Byte
  p3 : Byte
  deriving DecidableEq, Repr

/-- The events of R12. -/
inductive Event where
  | dir (d : Dir)
  | rs (v : Bool)
  | rw (v : Bool)
  | en (v : Bool)
  | bus (b : Byte)
  | sample (s : Byte)
  | delay (ms : Nat)
  | pktRead (i : BitVec 2) (b : Byte)
  | flagRead (f : Bool)
  | flagClear
  | txPoll (r : Bool)
  | txWrite (b : Byte)
  | rxByte (b : Byte) (i : BitVec 2) (f : Bool)
  | opStart (op : OpName)
  | opDone (op : OpName)
  deriving DecidableEq, Repr

/-! ## The environment -/

/-- What one agent of the environment answers: first the answers listed, then its free answers, of which
`drawn` have been used (log entry 3). -/
structure Tape (α : Type) where
  given : List α
  drawn : Nat
  deriving DecidableEq, Repr

/-! ## The LCD agent (R158) -/

/-- `entry` of R158. -/
inductive LcdEntry where
  | unset | incrementNoShift
  deriving DecidableEq, Repr

/-- One of the two display lines. -/
inductive LcdLine where
  | one | two
  deriving DecidableEq, Repr

/-- What stands in a display cell: nothing known (power-on), a blank, or a byte (R158). -/
inductive LcdCell where
  | unspecified | blank | byte (b : Byte)
  deriving DecidableEq, Repr

/-- The record of R158. A line is the list of its `LCD_COLS` cells, column 0 first; `cur` is `none` while
unset. -/
structure Screen where
  fmt      : LcdFmt
  entry    : LcdEntry
  on       : Bool
  cursorOn : Bool
  blink    : Bool
  line1    : List LcdCell
  line2    : List LcdCell
  cur      : Option (LcdLine × Nat)
  deriving DecidableEq, Repr

/-- The abstract display view (R158, R159). -/
inductive View where
  | unknown
  | known (k : Screen)
  deriving DecidableEq, Repr

/-- The view, with what R159 needs of the transactions seen so far (log entries 8 and 9). -/
structure Lcd where
  view     : View
  /-- the last transaction was a status read with the busy bit clear -/
  gated    : Bool
  /-- the last transaction was a status read -/
  polled   : Bool
  /-- how many `WRCMD(0x30)` have arrived: the first three of power-on cannot be gated (R182) -/
  fsets    : Nat
  /-- every write so far was `WRCMD(0x30)` -/
  powerOn  : Bool
  /-- how many of INIT's seven writes the latest transactions have, in INIT's transaction trace (R120) -/
  initAt   : Nat
  /-- a complete INIT has arrived at some time -/
  initDone : Bool
  /-- how many times a clear has ended an unknown view -/
  ended    : Nat
  deriving DecidableEq, Repr

/-! ## The state -/

structure State where
  /-- the parameters (R9): constant, no step writes it -/
  cfg     : Config
  /-- `PKT[0..3]` (R21) -/
  pkt     : Packet
  /-- `RXIDX` (R22) -/
  rxidx   : BitVec 2
  /-- `READY` (R23) -/
  ready   : Bool
  /-- the line `RS` (R24) -/
  rs      : Bool
  /-- the line `RW` (R25) -/
  rw      : Bool
  /-- the line `E` (R26) -/
  e       : Bool
  /-- `DIR` (R27) -/
  dir     : Dir
  /-- `DBO` (R28) -/
  dbo     : Byte
  /-- `S`, the last status sample (R29) -/
  stat    : Byte
  /-- `N`, a number of `INTW` bits (R30) -/
  n       : Nat
  /-- `I` (R31) -/
  i       : BitVec 4
  /-- `V` (R31) -/
  v       : Byte
  /-- `SEQ`, the top frame first; the empty stack is IDLE (R32) -/
  seq     : List Frame
  /-- whose turn it is (R11, R166) -/
  turns   : Tape Turn
  /-- the LCD agent's answers to status samples (R157) -/
  samples : Tape Byte
  /-- TXHW's answers to transmit-ready polls (R131) -/
  txhw    : Tape Bool
  /-- what the host presents while the sequencer is idle (R142) -/
  host    : Tape (Option Nat)
  /-- the host presents nothing more than `host` lists (R184) -/
  hostEnds : Bool
  /-- the event history, oldest first (R12) -/
  trace   : List Event
  /-- the bus word of a transaction the LCD agent has yet to take in -/
  lcdIn   : Option BusWord
  /-- the LCD agent -/
  lcd     : Lcd
  deriving DecidableEq, Repr

/-! ## Reasons to stop -/

/-- No operation raises a fault (R160): the type is empty. -/
inductive Fault where
  deriving DecidableEq, Repr

/-- Why a run is refused. -/
inductive Refusal where
  /-- An instruction without a meaning. Raised by exec alone; no arm raises it. Safe. -/
  | notModelled (mnemonic : String)
  /-- A request word with a reserved operation code: R92 says that a model refuses it and that the spec
  promises no behaviour. Raised by the meanings of RESERVED_B to RESERVED_F. Safe. -/
  | reservedOpcode (code : BitVec 4)
  /-- A word on a port that no instruction has: an `LCDBUS` word with `RS = 1, RW = 1`, which no operation
  generates (R93). Raised by step when it fetches such a word. Safe. -/
  | undecodable (e : DecodeError)
  deriving DecidableEq, Repr

/-! ## Reset (R36, R180) -/

/-- A tape with no answers listed and no free answer used. -/
def Tape.fresh {α : Type} : Tape α := ⟨[], 0⟩

/-- The view at reset: nothing set, every cell unspecified (R158). -/
def Screen.reset (cols : Nat) : Screen where
  fmt      := .unset
  entry    := .unset
  on       := false
  cursorOn := false
  blink    := false
  line1    := List.replicate cols .unspecified
  line2    := List.replicate cols .unspecified
  cur      := none

/-- The LCD agent before any transaction. -/
def Lcd.reset (cols : Nat) : Lcd where
  view     := .known (Screen.reset cols)
  gated    := false
  polled   := false
  fsets    := 0
  powerOn  := true
  initAt   := 0
  initDone := false
  ended    := 0

/-- The state after reset of the build with parameters `c` (R36, R181). -/
def State.resetWith (c : Config) : State where
  cfg     := c
  pkt     := ⟨Config.resetPkt 0, Config.resetPkt 1, Config.resetPkt 2, Config.resetPkt 3⟩
  rxidx   := 0
  ready   := false
  rs      := false
  rw      := false
  e       := false
  dir     := .out
  dbo     := Config.resetDbo
  stat    := Config.resetStat
  n       := Config.resetN % 2 ^ c.intw
  i       := Config.resetI
  v       := Config.resetV
  seq     := match c.top with
    | .autonomous => [.main .m0]
    | .hosted => []
  turns   := Tape.fresh
  samples := Tape.fresh
  txhw    := Tape.fresh
  host    := Tape.fresh
  hostEnds := false
  trace   := []
  lcdIn   := none
  lcd     := Lcd.reset c.lcdCols

/-- The state after reset of the default build. -/
def State.reset : State := State.resetWith Config.default

end Sys2Proof.Machine
end

