-- ==== Sys2Proof/Machine/Ops.lean ====
section
/-! DEFINITION. The named operations over registers, lines, tapes and the trace, each with the event R12
gives it; and the interrupt's entry and return (R167, R168). -/

namespace Sys2Proof.Machine

/-- Appends an event to the trace (R12). -/
def State.emit (ev : Event) (s : State) : State := { s with trace := s.trace ++ [ev] }

/-! ## The packet (R21, R51, R58) -/

/-- One byte of the packet. -/
def Packet.get (p : Packet) (i : BitVec 2) : Byte :=
  match i.toNat with
  | 0 => p.p0
  | 1 => p.p1
  | 2 => p.p2
  | _ => p.p3

/-- The packet with one byte replaced. -/
def Packet.set (p : Packet) (i : BitVec 2) (b : Byte) : Packet :=
  match i.toNat with
  | 0 => { p with p0 := b }
  | 1 => { p with p1 := b }
  | 2 => { p with p2 := b }
  | _ => { p with p3 := b }

/-! ## Tapes: the environment's answers (R35) -/

/-- The answer that comes next. -/
def Tape.head {α : Type} (free : Nat → α) (t : Tape α) : α :=
  match t.given with
  | a :: _ => a
  | [] => free t.drawn

/-- The tape with that answer used. -/
def Tape.tail {α : Type} (t : Tape α) : Tape α :=
  match t.given with
  | _ :: as => { t with given := as }
  | [] => { t with drawn := t.drawn + 1 }

/-- The tape with `a` as its next answer. -/
def Tape.put {α : Type} (a : α) (t : Tape α) : Tape α := { t with given := a :: t.given }

/-- The byte the LCD agent supplies to the next `Sample()` (R13, R157). -/
def State.nextSample (s : State) : Byte := s.samples.head Config.lcdAnswer

/-- The bit TXHW supplies to the next `TxReady()` (R13, R131). -/
def State.nextTxReady (s : State) : Bool := s.txhw.head Config.txAnswer

/-- Whose step comes next (R11). -/
def State.nextTurn (s : State) : Turn := s.turns.head Config.freeTurn

/-- What the host presents next: what its tape lists, then free answers, or nothing for a host that issues nothing
more (R142, R184). -/
def State.nextOffer (s : State) : Option Nat :=
  s.host.head fun k => if s.hostEnds then none else Config.hostOffer k

/-- Uses the turn. -/
def State.takeTurn (s : State) : State := { s with turns := s.turns.tail }

/-- Uses what the host presents. -/
def State.takeOffer (s : State) : State := { s with host := s.host.tail }

/-! ## The LCD lines (R24 to R28) -/

/-- `DIR <- d`. -/
def State.driveDir (d : Dir) (s : State) : State :=
  { s with dir := d, trace := s.trace ++ [.dir d] }

/-- `RS <- v`. -/
def State.driveRs (v : Bool) (s : State) : State :=
  { s with rs := v, trace := s.trace ++ [.rs v] }

/-- `RW <- v`. -/
def State.driveRw (v : Bool) (s : State) : State :=
  { s with rw := v, trace := s.trace ++ [.rw v] }

/-- `DBO <- b`. -/
def State.driveBus (b : Byte) (s : State) : State :=
  { s with dbo := b, trace := s.trace ++ [.bus b] }

/-- `E <- 1`. -/
def State.raiseE (s : State) : State :=
  { s with e := true, trace := s.trace ++ [.en true] }

/-- What the LCD agent has to take in after the line `E` falls: the bus word of a write pulse, which R116
counts at the falling edge. A read was counted at its sample. -/
def State.fallingWord (s : State) : Option BusWord :=
  if s.e && !s.rw then some (busWord s.rs false s.dbo) else s.lcdIn

/-- `E <- 0`. -/
def State.lowerE (s : State) : State :=
  { s with e := false, trace := s.trace ++ [.en false], lcdIn := s.fallingWord }

/-- `S <- Sample()`: the LCD agent supplies the byte, which is a status read (R111 step W5, R116). -/
def State.sample (s : State) : State :=
  { s with
    stat := s.nextSample
    samples := s.samples.tail
    trace := s.trace ++ [.sample s.nextSample]
    lcdIn := some (busWord false true s.nextSample) }

/-! ## Delay, packet, flag, transmitter -/

/-- `Delay(ms)`: the delay primitive returns; no time is kept (R170, R196). -/
def State.delay (ms : Nat) (s : State) : State := s.emit (.delay ms)

/-- `V <- MemRead(PKT, i, 1)` (R13, R58). -/
def State.readPkt (i : BitVec 2) (s : State) : State :=
  { s with v := s.pkt.get i, trace := s.trace ++ [.pktRead i (s.pkt.get i)] }

/-- The read of `READY` (R23, R140). -/
def State.readFlag (s : State) : State := s.emit (.flagRead s.ready)

/-- `READY <- 0` (R134). -/
def State.clearFlag (s : State) : State :=
  { s with ready := false, trace := s.trace ++ [.flagClear] }

/-- One poll of `TxReady()` (R131). -/
def State.pollTx (s : State) : State :=
  { s with txhw := s.txhw.tail, trace := s.trace ++ [.txPoll s.nextTxReady] }

/-- `TxWrite(b)` (R13, R59). -/
def State.writeTx (b : Byte) (s : State) : State := s.emit (.txWrite b)

/-! ## The sequencer's registers (R30 to R32) -/

/-- `N <- n`, a register of `INTW` bits (R30). -/
def State.setN (n : Nat) (s : State) : State := { s with n := n % 2 ^ s.cfg.intw }

/-- `I <- i` (R31). -/
def State.setI (i : BitVec 4) (s : State) : State := { s with i := i }

/-- `V <- b`, when a frame with a byte operand is pushed (R31). -/
def State.setV (b : Byte) (s : State) : State := { s with v := b }

/-- The sequencer's stack becomes `fs` (R32). -/
def State.setSeq (fs : List Frame) (s : State) : State := { s with seq := fs }

/-! ## The receive step (R130) -/

/-- `READY` after a byte is received: set with the fourth byte, else as it was. -/
def State.readyAfterByte (s : State) : Bool := s.rxidx == 3 || s.ready

/-- `RXIDX` after a byte is received: 0 after the fourth, so the value 4 is never held (R22, R130). -/
def State.indexAfterByte (s : State) : BitVec 2 := if s.rxidx = 3 then 0 else s.rxidx + 1

/-- The receive step's store, index update and flag, with its event. -/
def State.storeByte (b : Byte) (s : State) : State :=
  { s with
    pkt := s.pkt.set s.rxidx b
    rxidx := s.indexAfterByte
    ready := s.readyAfterByte
    trace := s.trace ++ [.rxByte b s.rxidx s.readyAfterByte] }

/-- Interrupt entry saves nothing and changes nothing of the block's state (R167). -/
def State.enterInterrupt (s : State) : State := s

/-- Interrupt return restores nothing, because nothing was saved (R168). -/
def State.leaveInterrupt (s : State) : State := s

/-! ## What is presented to the block from outside -/

/-- The input `rst`: every state element takes its reset value and a new run begins (R180). No agent's step
asserts it: a run is a run from reset (log entry 13). -/
def State.assertRst (s : State) : State := State.resetWith s.cfg

/-- The host's next request word, for an idle hosted sequencer whose turn it is (R142). -/
def State.presentRequest (w : Nat) (s : State) : State :=
  { s with
    cfg := { s.cfg with top := .hosted, intw := 32 }
    seq := []
    lcdIn := none
    turns := s.turns.put .seq
    host := s.host.put (some w) }

/-- A bus word for the LCD agent to take in next. -/
def State.presentBusWord (w : BusWord) (s : State) : State := { s with lcdIn := some w }

/-- A received byte, whose receive step comes next (R91, R165). -/
def State.presentByte (b : Byte) (s : State) : State :=
  { s with lcdIn := none, turns := s.turns.put (.rx b) }

end Sys2Proof.Machine
end

