-- ==== Sys2Proof/Machine/Flags.lean ====
section
/-! DEFINITION. The two flags the block reads: the busy flag of a status byte (R29, R86) and the ReadyFlag
(R23). No arithmetic operation sets a flag (R14). -/

namespace Sys2Proof.Machine

/-- The busy flag of a status byte, its top bit (R86). -/
def busyFlag (status : Byte) : Bool := status.getLsbD busyBit

/-- `BF = S[7]` (R29). -/
def State.busy (s : State) : Bool := busyFlag s.stat

/-- `READY` as DISP sees it (R140). -/
def State.flag (s : State) : Bool := s.ready

end Sys2Proof.Machine
end

