-- ==== Sys2Proof/Machine/Operands.lean ====
section
/-! DEFINITION. Operands: the bytes and numbers the operations assemble (R83, R88, R89), and how the loop
index addresses the label and the packet (R31, R51). -/

namespace Sys2Proof.Machine

/-- The character of a decimal digit (R88). -/
def digitChar (g : Nat) : Byte := BitVec.ofNat 8 (0x30 + g)

/-- The byte WINT sends for the value `n`: its least significant decimal digit (R122). -/
def digitOf (n : Nat) : Byte := digitChar (n % decBase)

/-- `LABEL`, the text "Command:" (R89). -/
def label : List Byte := [0x43, 0x6F, 0x6D, 0x6D, 0x61, 0x6E, 0x64, 0x3A]

/-- `LABEL[i]`; `I` runs over 0 to 7 there (R123). -/
def labelByte (i : BitVec 4) : Byte := label.getD (i.toNat % 8) 0x3A

/-- The packet index `I` gives; `I` runs over 0 to 3 there (R51, R123, R133). -/
def packetIndex (i : BitVec 4) : BitVec 2 := i.setWidth 2

/-! The command bytes the block sends (R8, R87). -/

/-- `FSET8`, sent three times at power-on. -/
def lcdFset8 : Byte := 0x30
/-- `FSET8_2L`: 8-bit, 2-line, 5x7. -/
def lcdFset8TwoLine : Byte := 0x38
/-- `ENTRY_INC`: increment cursor, no shift. -/
def lcdEntryInc : Byte := 0x06
/-- `CLEAR`: clear display, home. -/
def lcdClear : Byte := 0x01
/-- `DISP_ON_CB`: display on, cursor on, blink on. -/
def lcdDispOnCb : Byte := 0x0F
/-- `DDRAM_L2`: cursor to the start of the second line. -/
def lcdDdramL2 : Byte := 0xC0

end Sys2Proof.Machine
end

