-- ==== Sys2Proof/Machine/Sequencer.lean ====
section
/-! DEFINITION. The sequencer's internal computation (R11, R32): what `call` pushes, up to the first
micro-step of the innermost operation called, and where control goes when an operation returns. None of
it is a step of its own: it belongs to the micro-step before it. -/

namespace Sys2Proof.Machine

/-- Control stays in the top frame, which becomes `f`, over the frames `rest`. -/
def State.goto (f : Frame) (rest : List Frame) (s : State) : State := s.setSeq (f :: rest)

/-! ## Calls: `rest` is the stack beneath the called operation's frame -/

/-- `call RDYW` (R111). -/
def callRdyw (rest : List Frame) (s : State) : State := s.goto (.rdyw .w0) rest

/-- `call CMDI(c)` (R112). -/
def callCmdi (c : Byte) (rest : List Frame) (s : State) : State :=
  (s.setV c).goto (.cmdi .c0 c) rest

/-- `call CMD(c)`, whose first action is `K0: call RDYW` (R113). -/
def callCmd (c : Byte) (rest : List Frame) (s : State) : State :=
  callRdyw (.cmd .k0 c :: rest) (s.setV c)

/-- `call DAT(d)`, whose first action is `T0: call RDYW` (R114). -/
def callDat (d : Byte) (rest : List Frame) (s : State) : State :=
  callRdyw (.dat .t0 d :: rest) (s.setV d)

/-- INIT from `I1`: the first immediate command (R120). -/
def initFirst (rest : List Frame) (s : State) : State := callCmdi lcdFset8 (.init .i1 :: rest) s

/-- INIT from `I7`: the first gated command (R120). -/
def initGated (rest : List Frame) (s : State) : State := callCmd lcdFset8TwoLine (.init .i7 :: rest) s

/-- `call INIT`: `I0` is a step only when `T_INIT_0` is configured (R120). -/
def callInit (rest : List Frame) (s : State) : State :=
  match s.cfg.tInit0 with
  | some _ => s.goto (.init .i0) rest
  | none => initFirst rest s

/-- `call RNDR`: `D0` calls CMD(0x01) (R123). -/
def callRndr (rest : List Frame) (s : State) : State := callCmd lcdClear (.rndr .d0 :: rest) s

/-- `call TXB(b)` (R131). -/
def callTxb (b : Byte) (rest : List Frame) (s : State) : State :=
  (s.setV b).goto (.txb .x0 b) rest

/-- `call XPKT`: the loop starts at `I = 0` (R133). -/
def callXpkt (rest : List Frame) (s : State) : State := (s.setI 0).goto (.xpkt .e0) rest

/-- `call CLRF` (R134). -/
def callClrf (rest : List Frame) (s : State) : State := s.goto .clrf rest

/-- `call DISP` (R140). -/
def callDisp (rest : List Frame) (s : State) : State := s.goto (.disp .l0) rest

/-! ## Where control goes when the operation above returns -/

/-- INIT after the call at `l` (R120). `none` means that INIT returns. -/
def initAfter (l : InitLbl) (rest : List Frame) (s : State) : Option State :=
  match l with
  | .i0 => some (s.goto (.init .i0) rest)
  | .i1 => some (s.goto (.init .i2) rest)
  | .i2 => some (s.goto (.init .i2) rest)
  | .i3 => some (s.goto (.init .i4) rest)
  | .i4 => some (s.goto (.init .i4) rest)
  | .i5 =>
    match s.cfg.tInit3 with
    | some _ => some (s.goto (.init .i6) rest)
    | none => some (initGated rest s)
  | .i6 => some (s.goto (.init .i6) rest)
  | .i7 => some (callCmd lcdEntryInc (.init .i8 :: rest) s)
  | .i8 => some (callCmd lcdClear (.init .i9 :: rest) s)
  | .i9 => some (callCmd lcdDispOnCb (.init .i10 :: rest) s)
  | .i10 => none

/-- WINT at `N1`: the test made before every digit (R122). `none` means that WINT returns. -/
def wintTest (rest : List Frame) (s : State) : Option State :=
  if s.n = 0 then none else some (callDat (digitOf s.n) (.wint .n2 :: rest) s)

/-- `N3: N <- N / 10` (R122). -/
def State.shrinkN (s : State) : State := s.setN (s.n / decBase)

/-- RNDR after the call at `l` (R123). `none` means that RNDR returns. -/
def rndrAfter (l : RndrLbl) (rest : List Frame) (s : State) : Option State :=
  match l with
  | .d0 => some (callDat (labelByte 0) (.rndr .d1 :: rest) (s.setI 0))
  | .d1 =>
    if s.i = 7 then some ((s.setI 0).goto (.rndr .d2a) rest)
    else some (callDat (labelByte (s.i + 1)) (.rndr .d1 :: rest) (s.setI (s.i + 1)))
  | .d2a => some (s.goto (.rndr .d2a) rest)
  | .d2b =>
    if s.i = 3 then some (callCmd lcdDdramL2 (.rndr .d3 :: rest) s)
    else some ((s.setI (s.i + 1)).goto (.rndr .d2a) rest)
  | .d3 => none

/-- DISP after the call at `l` (R140). `none` means that DISP returns. -/
def dispAfter (l : DispLbl) (rest : List Frame) (s : State) : Option State :=
  match l with
  | .l0 => some (s.goto (.disp .l0) rest)
  | .l1 => some (callXpkt (.disp .l2 :: rest) s)
  | .l2 => some (callClrf (.disp .l3 :: rest) s)
  | .l3 => none

/-- MAIN starts INIT, its first top-level operation (R141). -/
def mainStart (rest : List Frame) (s : State) : State :=
  callInit (.main .m0 :: rest) (s.emit (.opStart .init))

/-- MAIN at `M1` starts the next DISP (R141). -/
def mainNext (rest : List Frame) (s : State) : State :=
  callDisp (.main .m1 :: rest) (s.emit (.opStart .disp))

/-- `return` of the operation `done` into the frames beneath it (R32). A top-level operation, one with no
frame or only MAIN's beneath it, emits `OpDone` (R12, R142). A frame that is not at a `call` line called
nothing, and control stays at its label; no run makes such a stack. -/
def returnTo (done : OpName) : List Frame → State → State
  | [], s => (s.emit (.opDone done)).setSeq []
  | .main _ :: rest, s => mainNext rest (s.emit (.opDone done))
  | .cmd .k0 v :: rest, s => s.goto (.cmd .k1 v) rest
  | .cmd l v :: rest, s => s.goto (.cmd l v) rest
  | .dat .t0 v :: rest, s => s.goto (.dat .t1 v) rest
  | .dat l v :: rest, s => s.goto (.dat l v) rest
  | .init l :: rest, s => (initAfter l rest s).getD (returnTo .init rest s)
  | .wint _ :: rest, s => (wintTest rest s.shrinkN).getD (returnTo .wint rest s.shrinkN)
  | .rndr l :: rest, s => (rndrAfter l rest s).getD (returnTo .rndr rest s)
  | .disp l :: rest, s => (dispAfter l rest s).getD (returnTo .disp rest s)
  | .rdyw l :: rest, s => s.goto (.rdyw l) rest
  | .cmdi l v :: rest, s => s.goto (.cmdi l v) rest
  | .txb l v :: rest, s => s.goto (.txb l v) rest
  | .xpkt l :: rest, s => s.goto (.xpkt l) rest
  | .clrf :: rest, s => s.goto .clrf rest

/-- `call WINT(n)`: `N0` loads `N` and `N1` makes the first test; for 0 the operation returns at once
(R122). -/
def callWint (n : Nat) (rest : List Frame) (s : State) : State :=
  (wintTest rest (s.setN n)).getD (returnTo .wint rest (s.setN n))

/-- A step of an idle sequencer accepts a request: it emits `OpStart` and calls the operation (R142). -/
def State.accept (op : OpName) (call : List Frame → State → State) (s : State) : State :=
  call [] (s.emit (.opStart op))

end Sys2Proof.Machine
end

