-- ==== Sys2Proof/Machine/Composite.lean ====
section
/-! DEFINITION. The composite display operations INIT, WINT and RNDR (R120, R122, R123). Their calls and
returns are in Sequencer; the micro-steps here are the visible actions of their own. -/

namespace Sys2Proof.Machine

/-- INIT, R120: the delays `I0`, `I2`, `I4`, `I6`, each followed by the call after it. At a `call` line
whose call is not made yet, it is made. -/
def initMicro (l : InitLbl) (rest : List Frame) (s : State) : State :=
  match l with
  | .i0 =>
    match s.cfg.tInit0 with
    | some t => initFirst rest (s.delay t)
    | none => initFirst rest s
  | .i1 => initFirst rest s
  | .i2 => callCmdi lcdFset8 (.init .i3 :: rest) (s.delay s.cfg.tInit1)
  | .i3 => callCmdi lcdFset8 (.init .i3 :: rest) s
  | .i4 => callCmdi lcdFset8 (.init .i5 :: rest) (s.delay s.cfg.tInit2)
  | .i5 => callCmdi lcdFset8 (.init .i5 :: rest) s
  | .i6 =>
    match s.cfg.tInit3 with
    | some t => initGated rest (s.delay t)
    | none => initGated rest s
  | .i7 => initGated rest s
  | .i8 => callCmd lcdEntryInc (.init .i8 :: rest) s
  | .i9 => callCmd lcdClear (.init .i9 :: rest) s
  | .i10 => callCmd lcdDispOnCb (.init .i10 :: rest) s

/-- RNDR, R123: the packet read `D2a`, followed by `D2b: call DAT(V)`. -/
def rndrMicro (l : RndrLbl) (rest : List Frame) (s : State) : State :=
  match l with
  | .d0 => callCmd lcdClear (.rndr .d0 :: rest) s
  | .d1 => callDat (labelByte s.i) (.rndr .d1 :: rest) s
  | .d2a => callDat (s.pkt.get (packetIndex s.i)) (.rndr .d2b :: rest) (s.readPkt (packetIndex s.i))
  | .d2b => callDat s.v (.rndr .d2b :: rest) s
  | .d3 => callCmd lcdDdramL2 (.rndr .d3 :: rest) s

/-- WINT has no visible action of its own (R122): with its frame on top it makes its test and goes on. -/
def wintMicro (rest : List Frame) (s : State) : State :=
  (wintTest rest s).getD (returnTo .wint rest s)

/-- One step of INIT. -/
def execInit (s : State) : Host.Outcome State Fault Refusal :=
  match s.seq with
  | [] => .next (s.accept .init callInit)
  | .init l :: rest => .next (initMicro l rest s)
  | _ => .next s

/-- One step of WINT `n`. -/
def execWint (n : Nat) (s : State) : Host.Outcome State Fault Refusal :=
  match s.seq with
  | [] => .next (s.accept .wint (callWint n))
  | .wint _ :: rest => .next (wintMicro rest s)
  | _ => .next s

/-- One step of RNDR. -/
def execRndr (s : State) : Host.Outcome State Fault Refusal :=
  match s.seq with
  | [] => .next (s.accept .rndr callRndr)
  | .rndr l :: rest => .next (rndrMicro l rest s)
  | _ => .next s

end Sys2Proof.Machine
end

