-- ==== Sys2Proof/Machine/DispatchLoop.lean ====
section
/-! DEFINITION. The dispatch loop: DISP (R140), and MAIN's hold on the sequencer (R141). -/

namespace Sys2Proof.Machine

/-- DISP, R140: `L0` reads the flag; if it is clear the iteration is over. -/
def dispMicro (l : DispLbl) (rest : List Frame) (s : State) : State :=
  match l with
  | .l0 =>
    if s.flag then callRndr (.disp .l1 :: rest) s.readFlag
    else returnTo .disp rest s.readFlag
  | .l1 => callRndr (.disp .l1 :: rest) s
  | .l2 => callXpkt (.disp .l2 :: rest) s
  | .l3 => callClrf (.disp .l3 :: rest) s

/-- One step of DISP. -/
def execDisp (s : State) : Host.Outcome State Fault Refusal :=
  match s.seq with
  | [] => .next (s.accept .disp callDisp)
  | .disp l :: rest => .next (dispMicro l rest s)
  | _ => .next s

/-- With MAIN's frame on top, as at reset (R36, R181), the call its label names is made: it is internal
and belongs to the first micro-step of the operation called (R11, R141). -/
def State.wake (s : State) : State :=
  match s.seq with
  | .main .m0 :: rest => mainStart rest s
  | .main .m1 :: rest => mainNext rest s
  | _ => s

end Sys2Proof.Machine
end

