-- ==== Sys2Proof/Machine/Lcd.lean ====
section
/-! DEFINITION. The LCD agent: what each transaction and each of the six command bytes does to the
abstract display view (R150 to R159), and the meanings of the LCDBUS and LCDCMD rows, which the LCD agent
runs when a transaction reaches it. -/

namespace Sys2Proof.Machine

/-! ## What the command bytes do to a known view (R150 to R156) -/

/-- 0x30 (R150). -/
def Screen.fset8 (k : Screen) : Screen := { k with fmt := .eightBit }

/-- 0x38 (R151). -/
def Screen.fset8TwoLine (k : Screen) : Screen := { k with fmt := .eightBitTwoLine5x7 }

/-- 0x06 (R152). -/
def Screen.entryInc (k : Screen) : Screen := { k with entry := .incrementNoShift }

/-- 0x01: both lines blank, the cursor at line 1 column 0 (R153). -/
def Screen.clear (cols : Nat) (k : Screen) : Screen :=
  { k with
    line1 := List.replicate cols .blank
    line2 := List.replicate cols .blank
    cur := some (.one, 0) }

/-- 0x0F (R154). -/
def Screen.dispOnCb (k : Screen) : Screen := { k with on := true, cursorOn := true, blink := true }

/-- 0xC0: the cursor at line 2 column 0 (R155). -/
def Screen.ddramL2 (k : Screen) : Screen := { k with cur := some (.two, 0) }

/-- A data write where the cursor is, which then advances (R156). `none` where the view does not say what
happens: the entry mode never set, no cursor position, or the line full (R159). -/
def Screen.put (cols : Nat) (d : Byte) (k : Screen) : Option Screen :=
  match k.entry, k.cur with
  | .incrementNoShift, some (l, c) =>
    if c < cols then
      match l with
      | .one => some { k with line1 := k.line1.set c (.byte d), cur := some (.one, c + 1) }
      | .two => some { k with line2 := k.line2.set c (.byte d), cur := some (.two, c + 1) }
    else none
  | _, _ => none

/-- The view of R158 after a complete INIT on a live LCD. -/
def Screen.configured (cols : Nat) : Screen where
  fmt      := .eightBitTwoLine5x7
  entry    := .incrementNoShift
  on       := true
  cursorOn := true
  blink    := true
  line1    := List.replicate cols .blank
  line2    := List.replicate cols .blank
  cur      := some (.one, 0)

/-! ## What the agent keeps for R159 -/

/-- INIT's seven writes in order (R120). -/
def initWrites : List Byte :=
  [lcdFset8, lcdFset8, lcdFset8, lcdFset8TwoLine, lcdEntryInc, lcdClear, lcdDispOnCb]

/-- How many of INIT's writes the latest transactions have after one more command write `c`: the longest beginning of
INIT's transaction trace that they end with (R120). The three function sets come with no status read between them, and
each later write straight after a status read that was not busy. -/
def Lcd.initAdvance (c : Byte) (l : Lcd) : Nat :=
  if c = lcdFset8 then
    if l.initAt < 3 then l.initAt + 1
    else if l.initAt = 3 ∧ l.polled = false then 3
    else 1
  else if 3 ≤ l.initAt ∧ l.gated = true ∧ initWrites[l.initAt]? = some c then l.initAt + 1
  else 0

/-- The same after a status read: none stands between the function sets, and in a ready-wait none follows the one
that was not busy (R111, R120). -/
def Lcd.initAfterStatus (l : Lcd) : Nat := if l.initAt < 3 ∨ l.gated = true then 0 else l.initAt

/-- The command write `c` is the last of a complete INIT. -/
def Lcd.completesInit (c : Byte) (l : Lcd) : Bool := l.initAdvance c == 7

/-- The LCD has had a complete INIT, or the gated command write `c` is the next write of an INIT in progress. Any other
gated write is one issued before INIT (U10). -/
def Lcd.pastInit (c : Byte) (l : Lcd) : Bool :=
  l.initDone || decide (3 ≤ l.initAt) && l.initAdvance c == l.initAt + 1

/-- A command write may be taken at its word: it comes straight after a status read that was not busy, and after a
complete INIT or within one; or it is one of the first three function sets of power-on, which cannot be gated (R159,
R182, U10; log entry 8). -/
def Lcd.admitsCommand (c : Byte) (l : Lcd) : Bool :=
  if l.gated then l.pastInit c else c == lcdFset8 && l.powerOn && decide (l.fsets < 3)

/-- A data write may be taken at its word: gated, and after a complete INIT (R159, U10; log entry 8). -/
def Lcd.admitsData (l : Lcd) : Bool := l.gated && l.initDone

/-- The record of a command write. -/
def Lcd.noteCommand (c : Byte) (l : Lcd) : Lcd :=
  { l with
    gated := false
    polled := false
    fsets := if c = lcdFset8 then l.fsets + 1 else l.fsets
    powerOn := l.powerOn && c == lcdFset8
    initAt := l.initAdvance c
    initDone := l.initDone || l.completesInit c }

/-- The record of a data write. -/
def Lcd.noteData (l : Lcd) : Lcd := { l with gated := false, polled := false, powerOn := false, initAt := 0 }

/-- A view changed by `f` where it is known and `f` says what happens. -/
def View.update (f : Screen → Option Screen) (v : View) : View :=
  match v with
  | .unknown => .unknown
  | .known k =>
    match f k with
    | some k' => .known k'
    | none => .unknown

/-! ## What a transaction does to the LCD agent (R157 to R159) -/

/-- The view that a clear leaves where it was unknown and an INIT has been complete (R153, R159). Its entry mode is
INIT's, since R158 says what a RNDR after INIT shows; its format is INIT's if the clear is INIT's own, since R158 says
what a complete INIT leaves; its other settings are not stated and are free (log entry 9). -/
def Lcd.afterClear (cols : Nat) (l : Lcd) : Screen where
  fmt      := if l.initAdvance lcdClear = 6 then .eightBitTwoLine5x7 else Config.freeFmt l.ended
  entry    := .incrementNoShift
  on       := Config.freeOn l.ended
  cursorOn := Config.freeCursorOn l.ended
  blink    := Config.freeBlink l.ended
  line1    := List.replicate cols .blank
  line2    := List.replicate cols .blank
  cur      := some (.one, 0)

/-- The command write `c`, taken at its word, is a clear after a complete INIT: it ends an unknown view (R159). -/
def Lcd.clearsAfterInit (c : Byte) (l : Lcd) : Bool := c == lcdClear && l.initDone

/-- What a command write of `c`, taken at its word, makes of an unknown view: a clear after a complete INIT ends it
(R159), and so does the last write of a complete INIT, whatever came before that INIT (R158, U10). -/
def Lcd.revived (cols : Nat) (c : Byte) (l : Lcd) : View :=
  if l.clearsAfterInit c then .known (l.afterClear cols)
  else if l.completesInit c then .known (Screen.configured cols)
  else .unknown

/-- A command write of `c` whose effect on a known view is `f`. -/
def Lcd.takeCommand (cols : Nat) (c : Byte) (f : Screen → Option Screen) (l : Lcd) : Lcd :=
  { l.noteCommand c with
    view :=
      if l.admitsCommand c then
        match l.view with
        | .known k => (View.known k).update f
        | .unknown => l.revived cols c
      else .unknown
    ended := if l.admitsCommand c && l.view == .unknown && l.clearsAfterInit c then l.ended + 1 else l.ended }

/-- A command write of any byte: the six of R87, and for another the view becomes unknown (R159). -/
def Lcd.takeAnyCommand (cols : Nat) (c : Byte) (l : Lcd) : Lcd :=
  match decodeLcdcmd c.toNat with
  | .ok .fset8 => l.takeCommand cols c fun k => some k.fset8
  | .ok .fset8TwoLine => l.takeCommand cols c fun k => some k.fset8TwoLine
  | .ok .entryInc => l.takeCommand cols c fun k => some k.entryInc
  | .ok .clear => l.takeCommand cols c fun k => some (k.clear cols)
  | .ok .dispOnCb => l.takeCommand cols c fun k => some k.dispOnCb
  | .ok .ddramL2 => l.takeCommand cols c fun k => some k.ddramL2
  | _ => l.takeCommand cols c fun _ => none

/-- A data write (R156). -/
def Lcd.takeData (cols : Nat) (d : Byte) (l : Lcd) : Lcd :=
  { l.noteData with view := if l.admitsData then l.view.update (Screen.put cols d) else .unknown }

/-- A status read: no effect on the view (R157). -/
def Lcd.takeStatus (s : Byte) (l : Lcd) : Lcd :=
  { l with gated := !busyFlag s, polled := true, initAt := l.initAfterStatus }

/-! ## The meanings -/

/-- The LCD agent takes in the transaction that has reached it. -/
def State.lcdTake (f : Lcd → Lcd) (s : State) : State := { s with lcdIn := none, lcd := f s.lcd }

/-- LCD.WRCMD `c` (R85, R87, R150 to R155, R159). -/
def execLcdWrcmd (c : Byte) (s : State) : Host.Outcome State Fault Refusal :=
  .next (s.lcdTake (Lcd.takeAnyCommand s.cfg.lcdCols c))

/-- LCD.WRDATA `d` (R85, R156). -/
def execLcdWrdata (d : Byte) (s : State) : Host.Outcome State Fault Refusal :=
  .next (s.lcdTake (Lcd.takeData s.cfg.lcdCols d))

/-- LCD.RDSTAT `b` (R85, R157). -/
def execLcdRdstat (b : Byte) (s : State) : Host.Outcome State Fault Refusal :=
  .next (s.lcdTake (Lcd.takeStatus b))

/-- FSET8 (R150). -/
def execFset8 (s : State) : Host.Outcome State Fault Refusal :=
  .next (s.lcdTake (Lcd.takeCommand s.cfg.lcdCols lcdFset8 fun k => some k.fset8))

/-- FSET8_2L (R151). -/
def execFset8TwoLine (s : State) : Host.Outcome State Fault Refusal :=
  .next (s.lcdTake (Lcd.takeCommand s.cfg.lcdCols lcdFset8TwoLine fun k => some k.fset8TwoLine))

/-- ENTRY_INC (R152). -/
def execEntryInc (s : State) : Host.Outcome State Fault Refusal :=
  .next (s.lcdTake (Lcd.takeCommand s.cfg.lcdCols lcdEntryInc fun k => some k.entryInc))

/-- CLEAR (R153). -/
def execClear (s : State) : Host.Outcome State Fault Refusal :=
  .next (s.lcdTake (Lcd.takeCommand s.cfg.lcdCols lcdClear fun k => some (k.clear s.cfg.lcdCols)))

/-- DISP_ON_CB (R154). -/
def execDispOnCb (s : State) : Host.Outcome State Fault Refusal :=
  .next (s.lcdTake (Lcd.takeCommand s.cfg.lcdCols lcdDispOnCb fun k => some k.dispOnCb))

/-- DDRAM_L2 (R155). -/
def execDdramL2 (s : State) : Host.Outcome State Fault Refusal :=
  .next (s.lcdTake (Lcd.takeCommand s.cfg.lcdCols lcdDdramL2 fun k => some k.ddramL2))

end Sys2Proof.Machine
end

