-- ==== Sys2Proof/Machine/LcdPrim.lean ====
section
/-! DEFINITION. The LCD protocol primitives RDYW, CMDI, CMD and DAT (R110 to R114), each micro-step by
micro-step. A meaning takes one step of its operation: an idle sequencer accepts it, and a sequencer
whose top frame is that operation's takes the micro-step its label names. A sequencer busy with anything
else accepts no request, and the host waits (R142). -/

namespace Sys2Proof.Machine

/-- RDYW, R111. -/
def rdywMicro (l : RdywLbl) (rest : List Frame) (s : State) : State :=
  match l with
  | .w0 => (s.driveDir .inp).goto (.rdyw .w1) rest
  | .w1 => (s.driveRs false).goto (.rdyw .w2) rest
  | .w2 => (s.driveRw true).goto (.rdyw .w3) rest
  | .w3 => s.raiseE.goto (.rdyw .w4) rest
  | .w4 => (s.delay s.cfg.tPulse).goto (.rdyw .w5) rest
  | .w5 => s.sample.goto (.rdyw .w6) rest
  | .w6 => s.lowerE.goto (.rdyw (if s.busy then .w3 else .w7)) rest
  | .w7 => (s.driveDir .out).goto (.rdyw .w8) rest
  | .w8 => returnTo .rdyw rest (s.driveRw false)

/-- CMDI, R112. -/
def cmdiMicro (l : CmdiLbl) (c : Byte) (rest : List Frame) (s : State) : State :=
  match l with
  | .c0 => (s.driveRs false).goto (.cmdi .c1 c) rest
  | .c1 => (s.driveRw false).goto (.cmdi .c2 c) rest
  | .c2 => (s.driveBus c).goto (.cmdi .c3 c) rest
  | .c3 => s.raiseE.goto (.cmdi .c4 c) rest
  | .c4 => (s.delay s.cfg.tPulse).goto (.cmdi .c5 c) rest
  | .c5 => returnTo .cmdi rest s.lowerE

/-- CMD, R113. -/
def cmdMicro (l : CmdLbl) (c : Byte) (rest : List Frame) (s : State) : State :=
  match l with
  | .k0 => callRdyw (.cmd .k0 c :: rest) s
  | .k1 => (s.driveRs false).goto (.cmd .k2 c) rest
  | .k2 => (s.driveRw false).goto (.cmd .k3 c) rest
  | .k3 => (s.driveBus c).goto (.cmd .k4 c) rest
  | .k4 => s.raiseE.goto (.cmd .k5 c) rest
  | .k5 => (s.delay s.cfg.tPulse).goto (.cmd .k6 c) rest
  | .k6 => returnTo .cmd rest s.lowerE

/-- DAT, R114. -/
def datMicro (l : DatLbl) (d : Byte) (rest : List Frame) (s : State) : State :=
  match l with
  | .t0 => callRdyw (.dat .t0 d :: rest) s
  | .t1 => (s.driveRs true).goto (.dat .t2 d) rest
  | .t2 => (s.driveRw false).goto (.dat .t3 d) rest
  | .t3 => (s.driveBus d).goto (.dat .t4 d) rest
  | .t4 => s.raiseE.goto (.dat .t5 d) rest
  | .t5 => (s.delay s.cfg.tPulse).goto (.dat .t6 d) rest
  | .t6 => returnTo .dat rest s.lowerE

/-- One step of RDYW. -/
def execRdyw (s : State) : Host.Outcome State Fault Refusal :=
  match s.seq with
  | [] => .next (s.accept .rdyw callRdyw)
  | .rdyw l :: rest => .next (rdywMicro l rest s)
  | _ => .next s

/-- One step of CMDI `c`. -/
def execCmdi (c : Byte) (s : State) : Host.Outcome State Fault Refusal :=
  match s.seq with
  | [] => .next (s.accept .cmdi (callCmdi c))
  | .cmdi l v :: rest => .next (if v = c then cmdiMicro l c rest s else s)
  | _ => .next s

/-- One step of CMD `c`. -/
def execCmd (c : Byte) (s : State) : Host.Outcome State Fault Refusal :=
  match s.seq with
  | [] => .next (s.accept .cmd (callCmd c))
  | .cmd l v :: rest => .next (if v = c then cmdMicro l c rest s else s)
  | _ => .next s

/-- One step of DAT `d`. -/
def execDat (d : Byte) (s : State) : Host.Outcome State Fault Refusal :=
  match s.seq with
  | [] => .next (s.accept .dat (callDat d))
  | .dat l v :: rest => .next (if v = d then datMicro l d rest s else s)
  | _ => .next s

end Sys2Proof.Machine
end

