-- ==== Sys2Proof/Machine/Reserved.lean ====
section
/-! DEFINITION. The reserved operation codes (R92): "A model refuses a request word with a reserved code:
it gives it no meaning, marks the run refused, and proves nothing of it." -/

namespace Sys2Proof.Machine

/-- Operation code 0xB. -/
def execReservedB (_ : State) : Host.Outcome State Fault Refusal := .refused (.reservedOpcode 0xB)

/-- Operation code 0xC. -/
def execReservedC (_ : State) : Host.Outcome State Fault Refusal := .refused (.reservedOpcode 0xC)

/-- Operation code 0xD. -/
def execReservedD (_ : State) : Host.Outcome State Fault Refusal := .refused (.reservedOpcode 0xD)

/-- Operation code 0xE. -/
def execReservedE (_ : State) : Host.Outcome State Fault Refusal := .refused (.reservedOpcode 0xE)

/-- Operation code 0xF. -/
def execReservedF (_ : State) : Host.Outcome State Fault Refusal := .refused (.reservedOpcode 0xF)

end Sys2Proof.Machine
end

