-- ==== Sys2Proof/Machine/Serial.lean ====
section
/-! DEFINITION. The receive step RXB and the operations that touch the command buffer or the transmitter:
TXB, XPKT, CLRF (R130 to R134). -/

namespace Sys2Proof.Machine

/-- RXB `b`, R130: the whole handler, one atomic step of the RX agent, enabled in every state. -/
def execRxb (b : Byte) (s : State) : Host.Outcome State Fault Refusal :=
  .next (s.enterInterrupt.storeByte b).leaveInterrupt

/-- TXB, R131. -/
def txbMicro (l : TxbLbl) (b : Byte) (rest : List Frame) (s : State) : State :=
  match l with
  | .x0 => s.pollTx.goto (.txb (if s.nextTxReady then .x1 else .x0) b) rest
  | .x1 => returnTo .txb rest (s.writeTx b)

/-- XPKT, R133. After `I = 3` it returns, else the loop goes on. -/
def xpktMicro (l : XpktLbl) (rest : List Frame) (s : State) : State :=
  match l with
  | .e0 => s.pollTx.goto (.xpkt (if s.nextTxReady then .e1 else .e0)) rest
  | .e1 => (s.readPkt (packetIndex s.i)).goto (.xpkt .e2) rest
  | .e2 =>
    if s.i = 3 then returnTo .xpkt rest (s.writeTx s.v)
    else ((s.writeTx s.v).setI (s.i + 1)).goto (.xpkt .e0) rest

/-- CLRF, R134. -/
def clrfMicro (rest : List Frame) (s : State) : State := returnTo .clrf rest s.clearFlag

/-- One step of TXB `b`. -/
def execTxb (b : Byte) (s : State) : Host.Outcome State Fault Refusal :=
  match s.seq with
  | [] => .next (s.accept .txb (callTxb b))
  | .txb l v :: rest => .next (if v = b then txbMicro l b rest s else s)
  | _ => .next s

/-- One step of XPKT. -/
def execXpkt (s : State) : Host.Outcome State Fault Refusal :=
  match s.seq with
  | [] => .next (s.accept .xpkt callXpkt)
  | .xpkt l :: rest => .next (xpktMicro l rest s)
  | _ => .next s

/-- One step of CLRF. -/
def execClrf (s : State) : Host.Outcome State Fault Refusal :=
  match s.seq with
  | [] => .next (s.accept .clrf callClrf)
  | .clrf :: rest => .next (clrfMicro rest s)
  | _ => .next s

end Sys2Proof.Machine
end

