-- ==== Sys2Proof/Machine/Dispatch.lean ====
section
/-! DEFINITION. One arm for each constructor of Instr, each one call of its meaning. -/

namespace Sys2Proof.Machine

def exec (i : Instr) (s : State) : Host.Outcome State Fault Refusal :=
  match i with
  -- OPREQ (R82)
  | .rdyw => Sys2Proof.Machine.execRdyw s
  | .cmdi c => Sys2Proof.Machine.execCmdi c s
  | .cmd c => Sys2Proof.Machine.execCmd c s
  | .dat d => Sys2Proof.Machine.execDat d s
  | .init => Sys2Proof.Machine.execInit s
  | .wint n => Sys2Proof.Machine.execWint n s
  | .rndr => Sys2Proof.Machine.execRndr s
  | .txb b => Sys2Proof.Machine.execTxb b s
  | .xpkt => Sys2Proof.Machine.execXpkt s
  | .clrf => Sys2Proof.Machine.execClrf s
  | .disp => Sys2Proof.Machine.execDisp s
  -- reserved operation codes (R92)
  | .reservedB => Sys2Proof.Machine.execReservedB s
  | .reservedC => Sys2Proof.Machine.execReservedC s
  | .reservedD => Sys2Proof.Machine.execReservedD s
  | .reservedE => Sys2Proof.Machine.execReservedE s
  | .reservedF => Sys2Proof.Machine.execReservedF s
  -- LCDBUS (R85)
  | .lcdWrcmd c => Sys2Proof.Machine.execLcdWrcmd c s
  | .lcdWrdata d => Sys2Proof.Machine.execLcdWrdata d s
  | .lcdRdstat b => Sys2Proof.Machine.execLcdRdstat b s
  -- LCDCMD (R87)
  | .fset8 => Sys2Proof.Machine.execFset8 s
  | .fset8TwoLine => Sys2Proof.Machine.execFset8TwoLine s
  | .entryInc => Sys2Proof.Machine.execEntryInc s
  | .clear => Sys2Proof.Machine.execClear s
  | .dispOnCb => Sys2Proof.Machine.execDispOnCb s
  | .ddramL2 => Sys2Proof.Machine.execDdramL2 s
  -- RXEV (R91)
  | .rxb b => Sys2Proof.Machine.execRxb b s

end Sys2Proof.Machine
end

