-- ==== Sys2Proof/Machine/Fetch.lean ====
section
/-! DEFINITION. Which agent moves, and the instruction it runs. The LCD agent takes in a transaction before
any agent of the block moves on; then the turn says whether the receive agent or the sequencer steps (R11,
R166). The sequencer runs the operation of its top frame; when idle it asks the host (R141, R142). -/

namespace Sys2Proof.Machine

/-- The instruction whose micro-step a top frame stands for. MAIN has none: it is a pseudo-operation
(R95). -/
def frameInstr (n : Nat) : Frame → Option Instr
  | .rdyw _ => some .rdyw
  | .cmdi _ v => some (.cmdi v)
  | .cmd _ v => some (.cmd v)
  | .dat _ v => some (.dat v)
  | .init _ => some .init
  | .wint _ => some (.wint n)
  | .rndr _ => some .rndr
  | .txb _ v => some (.txb v)
  | .xpkt _ => some .xpkt
  | .clrf => some .clrf
  | .disp _ => some .disp
  | .main _ => none

/-- What the next step does: run an instruction at a state, leave the block as it is, or stop at a word
that is no instruction. -/
inductive Fetched where
  | run (i : Instr) (s : State)
  | idle (s : State)
  | bad (e : DecodeError)
  deriving DecidableEq, Repr

/-- The instruction of a word on a port, to be run at `s`. -/
def fetchWord (p : PortWord) (s : State) : Fetched :=
  match decode s.cfg.intw p with
  | .ok i => .run i s
  | .error e => .bad e

/-- What the request port carries of `w`: it has `4 + INTW` wires (R15, R81). -/
def portRequest (intw w : Nat) : PortWord := ⟨.opreq, w % 2 ^ (4 + intw)⟩

/-- The host's turn at an idle sequencer: only a hosted one takes requests, and the host may present
nothing (R142). -/
def fetchRequest (s : State) : Fetched :=
  match s.cfg.top with
  | .autonomous => .idle s
  | .hosted =>
    match s.nextOffer with
    | some w => fetchWord (portRequest s.cfg.intw w) s.takeOffer
    | none => .idle s.takeOffer

/-- The sequencer's turn. -/
def fetchSeq (s : State) : Fetched :=
  match s.wake.seq with
  | [] => fetchRequest s.wake
  | f :: _ =>
    match frameInstr s.wake.n f with
    | some i => .run i s.wake
    | none => .idle s.wake

/-- What the next step does. -/
def fetch (s : State) : Fetched :=
  match s.lcdIn with
  | some w => fetchWord ⟨.lcdbus, w.toNat⟩ s
  | none =>
    match s.nextTurn with
    | .rx b => fetchWord ⟨.rxev, b.toNat⟩ s.takeTurn
    | .seq => fetchSeq s.takeTurn

/-- `s` with a word on the port of its format, where the next step fetches it. A command byte reaches the
LCD in the bus word `0 0 cccccccc` (R87); a status byte in `0 1 bsssssss` (R86). -/
def State.present (p : PortWord) (s : State) : State :=
  match p.format with
  | .opreq => s.presentRequest p.bits
  | .lcdbus => s.presentBusWord (BitVec.ofNat 10 p.bits)
  | .lcdcmd => s.presentBusWord (busWord false false (BitVec.ofNat 8 p.bits))
  | .lcdstat => s.presentBusWord (busWord false true (BitVec.ofNat 8 p.bits))
  | .rxev => s.presentByte (BitVec.ofNat 8 p.bits)

end Sys2Proof.Machine
end

