-- ==== Sys2Proof/Machine/Step.lean ====
section
/-! DEFINITION. One step of the machine (R11), and a table row's word placed where the next step fetches. -/

namespace Sys2Proof.Machine

/-- The next step: the instruction fetched is run. -/
def step (s : State) : Host.Outcome State Fault Refusal :=
  match fetch s with
  | .run i t => exec i t
  | .idle t => .next t
  | .bad e => .refused (.undecodable e)

/-- `s` with the word of a table row where the next step fetches its instruction; `s` itself where the
table has no such row. -/
def State.withFetchWord (s : State) (nbits w : Nat) : State :=
  match tableRow w (tableFormats nbits) with
  | some (p, _) => s.present p
  | none => s

end Sys2Proof.Machine
end

