-- ==== Sys2Proof/Machine/Listing.lean ====
section
/-! DEFINITION. Program listings: the mnemonics and operand spellings of R94 and the expansions of the
pseudo-operations of R95 (R121, R132, R141). -/

namespace Sys2Proof.Machine

/-- The mnemonic of an instruction (R82, R85, R87, R94); the reserved codes as the opcode table names them. -/
def mnemonic : Instr → String
  | .rdyw => "RDYW"
  | .cmdi _ => "CMDI"
  | .cmd _ => "CMD"
  | .dat _ => "DAT"
  | .init => "INIT"
  | .wint _ => "WINT"
  | .rndr => "RNDR"
  | .txb _ => "TXB"
  | .xpkt => "XPKT"
  | .clrf => "CLRF"
  | .disp => "DISP"
  | .reservedB => "RESERVED_B"
  | .reservedC => "RESERVED_C"
  | .reservedD => "RESERVED_D"
  | .reservedE => "RESERVED_E"
  | .reservedF => "RESERVED_F"
  | .lcdWrcmd _ => "LCD.WRCMD"
  | .lcdWrdata _ => "LCD.WRDATA"
  | .lcdRdstat _ => "LCD.RDSTAT"
  | .fset8 => "FSET8"
  | .fset8TwoLine => "FSET8_2L"
  | .entryInc => "ENTRY_INC"
  | .clear => "CLEAR"
  | .dispOnCb => "DISP_ON_CB"
  | .ddramL2 => "DDRAM_L2"
  | .rxb _ => "@RX RXB"

/-- A hexadecimal digit. -/
def hexDigit (n : Nat) : String :=
  match n with
  | 10 => "A"
  | 11 => "B"
  | 12 => "C"
  | 13 => "D"
  | 14 => "E"
  | 15 => "F"
  | k => toString k

/-- A byte operand as `0xHH`. -/
def hexByte (b : Byte) : String := "0x" ++ hexDigit (b.toNat / 16) ++ hexDigit (b.toNat % 16)

/-- The operand as a listing spells it: a byte as `0xHH`, WINT's number in decimal. -/
def operandText : Instr → Option String
  | .cmdi c => some (hexByte c)
  | .cmd c => some (hexByte c)
  | .dat d => some (hexByte d)
  | .wint n => some (toString n)
  | .txb b => some (hexByte b)
  | .lcdWrcmd c => some (hexByte c)
  | .lcdWrdata d => some (hexByte d)
  | .lcdRdstat s => some (hexByte s)
  | .rxb b => some (hexByte b)
  | .rdyw => none
  | .init => none
  | .rndr => none
  | .xpkt => none
  | .clrf => none
  | .disp => none
  | .reservedB => none
  | .reservedC => none
  | .reservedD => none
  | .reservedE => none
  | .reservedF => none
  | .fset8 => none
  | .fset8TwoLine => none
  | .entryInc => none
  | .clear => none
  | .dispOnCb => none
  | .ddramL2 => none

/-- The line of a listing, `MNEMONIC` or `MNEMONIC operand`. -/
def listingLine (i : Instr) : String :=
  match operandText i with
  | some t => mnemonic i ++ " " ++ t
  | none => mnemonic i

/-- `WTXT s` (R121): one DAT for each character, in order; nothing for the empty text. -/
def expandWtxt (s : List Byte) : List Instr := s.map .dat

/-- `XMIT b0 .. bk-1` (R132): one TXB for each byte, in order. -/
def expandXmit (bs : List Byte) : List Instr := bs.map .txb

/-- `MAIN` (R141): the `k`-th operation of its stream, INIT and then DISP for ever. -/
def mainOperation (k : Nat) : Instr :=
  match k with
  | 0 => .init
  | _ + 1 => .disp

end Sys2Proof.Machine
end

