-- ==== Sys2Proof/Machine/Ports.lean ====
section
/-! DEFINITION. The level signals of the block's interface (R15) as functions of the state. The other signals
are events of a step: a `Delay`, a `TxPoll`, a `TxWrite`, a received byte, a request (R12). -/

namespace Sys2Proof.Machine

/-- The output levels of R15. -/
structure Ports where
  lcdRs    : Bool
  lcdRw    : Bool
  lcdE     : Bool
  lcdDbOut : Byte
  /-- 1 when the block drives the bus -/
  lcdDbOe  : Bool
  /-- a request is accepted only then -/
  opIdle   : Bool
  deriving DecidableEq, Repr

/-- The sequencer is IDLE: the empty stack (R32). -/
def State.idle (s : State) : Bool := s.seq.isEmpty

/-- The levels the block shows outside. -/
def State.ports (s : State) : Ports where
  lcdRs    := s.rs
  lcdRw    := s.rw
  lcdE     := s.e
  lcdDbOut := s.dbo
  lcdDbOe  := s.dir == .out
  opIdle   := s.idle

/-- A pair of lines `RS`, `RW` selects a location of the LCD's register space at an enable pulse (R52). -/
inductive LcdLocation where
  | commandRegister | dataRegister | statusByte
  /-- `RS = 1, RW = 1`: not named by the spec's source, never generated (R38, R93) -/
  | notNamed
  deriving DecidableEq, Repr

/-- The location the lines select (R52). -/
def lcdLocation (rs rw : Bool) : LcdLocation :=
  match rs, rw with
  | false, false => .commandRegister
  | true, false => .dataRegister
  | false, true => .statusByte
  | true, true => .notNamed

end Sys2Proof.Machine
end

