-- ==== Sys2Proof/Machine/Trace.lean ====
section
/-! DEFINITION. What a trace says: the transactions the LCD saw (R116), the bytes handed to the transmitter
(R12), and the display view of a transaction trace (R158). -/

namespace Sys2Proof.Machine

/-- A transaction (R84, R116). `delay` occurs in the form with delays only. -/
inductive Txn where
  | wrcmd (c : Byte)
  | wrdata (d : Byte)
  | rdstat (s : Byte)
  | delay (ms : Nat)
  deriving DecidableEq, Repr

/-- The values R116 keeps while scanning a trace. -/
structure Lines where
  rs  : Bool
  rw  : Bool
  e   : Bool
  dir : Dir
  dbo : Byte
  deriving DecidableEq, Repr

/-- The lines of a state. -/
def State.lines (s : State) : Lines := ⟨s.rs, s.rw, s.e, s.dir, s.dbo⟩

/-- The lines after an event. -/
def Lines.after (l : Lines) : Event → Lines
  | .dir d => { l with dir := d }
  | .rs v => { l with rs := v }
  | .rw v => { l with rw := v }
  | .en v => { l with e := v }
  | .bus b => { l with dbo := b }
  | _ => l

/-- The transaction an event completes, from the lines before it; `gaps` asks for the form with delays. -/
def Lines.emits (gaps : Bool) (l : Lines) : Event → List Txn
  | .sample s => [.rdstat s]
  | .en false =>
    if l.e && !l.rw then (if l.rs then [.wrdata l.dbo] else [.wrcmd l.dbo]) else []
  | .delay ms => if gaps && !l.e then [.delay ms] else []
  | _ => []

/-- The transaction trace of the events that follow the lines `l` (R116). -/
def transactions (gaps : Bool) (l : Lines) : List Event → List Txn
  | [] => []
  | ev :: evs => l.emits gaps ev ++ transactions gaps (l.after ev) evs

/-- The bytes of the `TxWrite` events in order: the serial output (R12). -/
def serialOutput : List Event → List Byte
  | [] => []
  | .txWrite b :: evs => b :: serialOutput evs
  | _ :: evs => serialOutput evs

/-- What a transaction does to the LCD agent (R150 to R159). -/
def Lcd.take (cols : Nat) (l : Lcd) : Txn → Lcd
  | .wrcmd c => l.takeAnyCommand cols c
  | .wrdata d => l.takeData cols d
  | .rdstat s => l.takeStatus s
  | .delay _ => l

/-- The LCD agent after a transaction trace, from reset (R158). -/
def lcdAfter (cols : Nat) (ts : List Txn) : Lcd := ts.foldl (Lcd.take cols) (Lcd.reset cols)

end Sys2Proof.Machine
end

