-- ==== Sys2Proof/Safety.lean ====
section
/-! DEFINITION. The terms claims use: runs of several steps, the invariants of the lines and of the
sequencer's stack (R32, R38, R115, R188), the environment's answers (R195) and the events they lead to. -/

namespace Sys2Proof.Machine

/-! ## Runs -/

/-- `k` steps of the machine, ending at the first stop. -/
def steps : Nat → State → Host.Outcome State Fault Refusal
  | 0, s => .next s
  | k + 1, s =>
    match step s with
    | .next t => steps k t
    | .fault r => .fault r
    | .refused r => .refused r

/-- An idle sequencer with nothing outstanding: no frame, no transaction still to be taken in by the LCD
agent (R32, R142). -/
def State.Idle (s : State) : Prop := s.seq = [] ∧ s.lcdIn = none

/-- The next `k` turns are the sequencer's, with `ts` after them. -/
def State.SeqTurns (s : State) (k : Nat) (ts : List Turn) : Prop :=
  s.turns.given = List.replicate k .seq ++ ts

/-- What the host presents at its `k`-th opportunity from now on (R142). -/
def State.offerAt : Nat → State → Option Nat
  | 0, s => s.nextOffer
  | k + 1, s => s.takeOffer.offerAt k

/-- The host has no further request: it presents nothing at any opportunity to come (R184). -/
def State.NoFurtherRequest (s : State) : Prop := ∀ k, s.offerAt k = none

/-- Where a hosted run ends: the host has no further request and the sequencer is IDLE, with nothing on its way to the
LCD (R142, R184). An autonomous run has no end. -/
def State.AtEnd (s : State) : Prop := s.cfg.top = .hosted ∧ s.Idle ∧ s.NoFurtherRequest

/-- The receive steps of a trace that overran (R65, R163): those with the flag already set, `f` being the flag
before the trace. -/
def overruns (f : Bool) : List Event → Nat
  | [] => 0
  | .rxByte _ _ g :: evs => (if f then 1 else 0) + overruns g evs
  | .flagClear :: evs => overruns false evs
  | _ :: evs => overruns f evs

/-- ENV-NO-OVERRUN over the events `evs`, from reset (R195). -/
def NoOverrun (evs : List Event) : Prop := overruns false evs = 0

/-- The bytes of the receive steps of a trace, in order. -/
def receivedBytes : List Event → List Byte
  | [] => []
  | .rxByte b _ _ :: evs => b :: receivedBytes evs
  | _ :: evs => receivedBytes evs

/-- ENV-RX-NOLOSS over the events `evs` of a run in which the sender has sent `sent`: every byte sent has caused exactly
one receive step, in order (R195, D17). -/
def RxNoLoss (sent : List Byte) (evs : List Event) : Prop := receivedBytes evs = sent

/-- ENV-FRAMED: the sender has sent whole packets of four bytes (R192, R195). -/
def Framed (sent : List Byte) : Prop := pktLen ∣ sent.length

/-! ## The environment's answers (R195)

A *read* is what one ready-wait samples: some busy bytes, then one that is not busy. A *wait* is how many
polls say "not ready" before one says "ready". -/

/-- The status bytes of one ready-wait. -/
structure Read where
  busy : List Byte
  last : Byte
  deriving DecidableEq, Repr

/-- All of them busy but the last, which is not: ENV-LCD-LIVE for this ready-wait (R195). -/
def Read.Live (r : Read) : Prop := (∀ b ∈ r.busy, busyFlag b = true) ∧ busyFlag r.last = false

/-- The samples in order. -/
def Read.bytes (r : Read) : List Byte := r.busy ++ [r.last]

/-- The sequencer's micro-steps in a ready-wait: three to start, four an iteration, two to leave (R111). -/
def Read.turns (r : Read) : Nat := 4 * r.busy.length + 9

/-- The LCD agent's next samples are those of the reads `rs`, then `bs`. -/
def State.Reads (s : State) (rs : List Read) (bs : List Byte) : Prop :=
  (∀ r ∈ rs, r.Live) ∧ s.samples.given = rs.flatMap Read.bytes ++ bs

/-- The polls of one transmit loop with `k` that say "not ready": ENV-TX-LIVE for it (R195). -/
def pollBits (k : Nat) : List Bool := List.replicate k false ++ [true]

/-- TXHW's next answers are those of the waits `ks`, then `bs`. -/
def State.Polls (s : State) (ks : List Nat) (bs : List Bool) : Prop :=
  s.txhw.given = ks.flatMap pollBits ++ bs

/-! ## The events of the operations (R110 to R134) -/

/-- One iteration of ready-wait's loop: a pulse with a sample in it (R111). -/
def sampleEvents (tp : Nat) (b : Byte) : List Event :=
  [.en true, .delay tp, .sample b, .en false]

/-- A whole ready-wait (R111). -/
def rdywEvents (tp : Nat) (r : Read) : List Event :=
  [.dir .inp, .rs false, .rw true] ++ r.bytes.flatMap (sampleEvents tp) ++ [.dir .out, .rw false]

/-- The addressing, the byte and the pulse of a write (R112 to R114). -/
def writeEvents (tp : Nat) (rs : Bool) (b : Byte) : List Event :=
  [.rs rs, .rw false, .bus b, .en true, .delay tp, .en false]

/-- A CMD (R113). -/
def cmdEvents (tp : Nat) (r : Read) (c : Byte) : List Event := rdywEvents tp r ++ writeEvents tp false c

/-- A DAT (R114). -/
def datEvents (tp : Nat) (r : Read) (d : Byte) : List Event := rdywEvents tp r ++ writeEvents tp true d

/-- The DATs of a text, one read each (R121). -/
def textEvents (tp : Nat) (rs : List Read) (ds : List Byte) : List Event :=
  (List.zipWith (datEvents tp) rs ds).flatten

/-- An optional delay (R120 steps I0 and I6). -/
def gapEvents (t : Option Nat) : List Event := t.toList.map .delay

/-- INIT with the reads of its four gated commands (R120). -/
def initEvents (c : Config) (r1 r2 r3 r4 : Read) : List Event :=
  gapEvents c.tInit0 ++ writeEvents c.tPulse false lcdFset8 ++ [.delay c.tInit1] ++
  writeEvents c.tPulse false lcdFset8 ++ [.delay c.tInit2] ++ writeEvents c.tPulse false lcdFset8 ++
  gapEvents c.tInit3 ++ cmdEvents c.tPulse r1 lcdFset8TwoLine ++ cmdEvents c.tPulse r2 lcdEntryInc ++
  cmdEvents c.tPulse r3 lcdClear ++ cmdEvents c.tPulse r4 lcdDispOnCb

/-- A packet byte of RNDR: the read of the packet, then its DAT (R123). -/
def packetEvents (tp : Nat) (r : Read) (i : BitVec 2) (b : Byte) : List Event :=
  [.pktRead i b] ++ datEvents tp r b

/-- RNDR of the packet `p`: one read for the clear, eight for the label, four for the packet and one for
the last command (R123). -/
def rndrEvents (tp : Nat) (p : Packet) (r0 : Read) (rl : List Read) (q0 q1 q2 q3 r1 : Read) : List Event :=
  cmdEvents tp r0 lcdClear ++ textEvents tp rl label ++ packetEvents tp q0 0 p.p0 ++
  packetEvents tp q1 1 p.p1 ++ packetEvents tp q2 2 p.p2 ++ packetEvents tp q3 3 p.p3 ++
  cmdEvents tp r1 lcdDdramL2

/-- The polls of a transmit loop (R131). -/
def pollEvents (k : Nat) : List Event := (pollBits k).map .txPoll

/-- One byte of XPKT (R133). -/
def echoEvents (k : Nat) (i : BitVec 2) (b : Byte) : List Event :=
  pollEvents k ++ [.pktRead i b, .txWrite b]

/-- XPKT of the packet `p` (R133). -/
def xpktEvents (p : Packet) (k0 k1 k2 k3 : Nat) : List Event :=
  echoEvents k0 0 p.p0 ++ echoEvents k1 1 p.p1 ++ echoEvents k2 2 p.p2 ++ echoEvents k3 3 p.p3

/-! ## What the LCD sees of them (R116) -/

/-- The status reads of a ready-wait. -/
def Read.txns (r : Read) : List Txn := r.bytes.map .rdstat

/-- A CMD (R113). -/
def cmdTxns (r : Read) (c : Byte) : List Txn := r.txns ++ [.wrcmd c]

/-- A DAT (R114). -/
def datTxns (r : Read) (d : Byte) : List Txn := r.txns ++ [.wrdata d]

/-- The DATs of a text (R121). -/
def textTxns (rs : List Read) (ds : List Byte) : List Txn := (List.zipWith datTxns rs ds).flatten

/-- INIT (R120). -/
def initTxns (r1 r2 r3 r4 : Read) : List Txn :=
  [.wrcmd lcdFset8, .wrcmd lcdFset8, .wrcmd lcdFset8] ++ cmdTxns r1 lcdFset8TwoLine ++
  cmdTxns r2 lcdEntryInc ++ cmdTxns r3 lcdClear ++ cmdTxns r4 lcdDispOnCb

/-- RNDR of the packet `p` (R123). -/
def rndrTxns (p : Packet) (r0 : Read) (rl : List Read) (q0 q1 q2 q3 r1 : Read) : List Txn :=
  cmdTxns r0 lcdClear ++ textTxns rl label ++ datTxns q0 p.p0 ++ datTxns q1 p.p1 ++ datTxns q2 p.p2 ++
  datTxns q3 p.p3 ++ cmdTxns r1 lcdDdramL2

/-- The LCD agent after the transactions `ts`. -/
def Lcd.takeAll (cols : Nat) (ts : List Txn) (l : Lcd) : Lcd := ts.foldl (Lcd.take cols) l

/-! ## How long they take

The sequencer's turns, and the machine's steps, which are those turns and the LCD agent's steps: one after
each sample and one after each write. -/

/-- Turns of one gated write: the ready-wait and six more. -/
def Read.writeTurns (r : Read) : Nat := r.turns + 6

/-- Steps of one gated write. -/
def Read.writeSteps (r : Read) : Nat := r.writeTurns + r.bytes.length + 1

/-- Turns of INIT. -/
def initTurns (c : Config) (rs : List Read) : Nat :=
  20 + c.tInit0.toList.length + c.tInit3.toList.length + (rs.map Read.writeTurns).sum

/-- Steps of INIT. -/
def initSteps (c : Config) (rs : List Read) : Nat :=
  23 + c.tInit0.toList.length + c.tInit3.toList.length + (rs.map Read.writeSteps).sum

/-- Turns of RNDR: its fourteen writes and its four packet reads. -/
def rndrTurns (rs : List Read) : Nat := 4 + (rs.map Read.writeTurns).sum

/-- Steps of RNDR. -/
def rndrSteps (rs : List Read) : Nat := 4 + (rs.map Read.writeSteps).sum

/-- Turns, and steps, of XPKT: for each byte its polls, the read and the write. -/
def xpktTurns (ks : List Nat) : Nat := (ks.map (· + 3)).sum

/-! ## The lines at every label (R38, R110 to R115, R188) -/

/-- The lines `DIR`, `RW` and `E` have these values. -/
def State.has (d : Dir) (rw e : Bool) (s : State) : Bool := s.dir == d && s.rw == rw && s.e == e

/-- The lines between transactions: the block drives the bus, write mode, no pulse (R38). -/
def State.resting (s : State) : Bool := s.has .out false false

/-- The write phase of a transaction with register-select `r` and byte `b`, `k` of its six actions done
(R112 to R114). -/
def State.writing (r : Bool) (b : Byte) (k : Nat) (s : State) : Bool :=
  s.has .out false (3 < k) && (k == 0 || s.rs == r) && (k < 3 || s.dbo == b)

/-- The lines fit the label of the top frame. -/
def State.linesFit (s : State) : Bool :=
  match s.seq with
  | .rdyw .w0 :: _ => s.resting
  | .rdyw .w1 :: _ => s.has .inp false false
  | .rdyw .w2 :: _ => s.has .inp false false && !s.rs
  | .rdyw .w3 :: _ => s.has .inp true false && !s.rs
  | .rdyw .w4 :: _ => s.has .inp true true && !s.rs
  | .rdyw .w5 :: _ => s.has .inp true true && !s.rs
  | .rdyw .w6 :: _ => s.has .inp true true && !s.rs
  | .rdyw .w7 :: _ => s.has .inp true false && !s.rs
  | .rdyw .w8 :: _ => s.has .out true false && !s.rs
  | .cmdi .c0 v :: _ => s.writing false v 0
  | .cmdi .c1 v :: _ => s.writing false v 1
  | .cmdi .c2 v :: _ => s.writing false v 2
  | .cmdi .c3 v :: _ => s.writing false v 3
  | .cmdi .c4 v :: _ => s.writing false v 4
  | .cmdi .c5 v :: _ => s.writing false v 5
  | .cmd .k1 v :: _ => s.writing false v 0
  | .cmd .k2 v :: _ => s.writing false v 1
  | .cmd .k3 v :: _ => s.writing false v 2
  | .cmd .k4 v :: _ => s.writing false v 3
  | .cmd .k5 v :: _ => s.writing false v 4
  | .cmd .k6 v :: _ => s.writing false v 5
  | .dat .t1 v :: _ => s.writing true v 0
  | .dat .t2 v :: _ => s.writing true v 1
  | .dat .t3 v :: _ => s.writing true v 2
  | .dat .t4 v :: _ => s.writing true v 3
  | .dat .t5 v :: _ => s.writing true v 4
  | .dat .t6 v :: _ => s.writing true v 5
  | _ => s.resting

/-- The label is past a ready-wait whose last sample was not busy and before the write it gates. -/
def Frame.gated : Frame → Bool
  | .rdyw .w7 => true
  | .rdyw .w8 => true
  | .cmd l _ => l != .k0
  | .dat l _ => l != .t0
  | _ => false

/-- What the LCD agent has seen fits the label of the top frame: at `W6` it has seen the sample or is about
to; past the ready-wait it has seen a status read that was not busy (R111, R115). -/
def State.readyFit (s : State) : Bool :=
  match s.seq with
  | .rdyw .w6 :: _ =>
    s.lcdIn == some (busWord false true s.stat) || (s.lcdIn.isNone && s.lcd.gated == !s.busy)
  | f :: _ => !f.gated || (s.lcdIn.isNone && s.lcd.gated && !s.busy)
  | [] => true

/-! ## The stack (R32) -/

/-- `f` stands above `g` because `g` is at the `call` line of `f`'s operation, with that operand. -/
def State.callFits (s : State) (f g : Frame) : Bool :=
  match f, g with
  | .rdyw _, .cmd .k0 _ => true
  | .rdyw _, .dat .t0 _ => true
  | .cmdi _ v, .init .i1 => v == lcdFset8
  | .cmdi _ v, .init .i3 => v == lcdFset8
  | .cmdi _ v, .init .i5 => v == lcdFset8
  | .cmd _ v, .init .i7 => v == lcdFset8TwoLine
  | .cmd _ v, .init .i8 => v == lcdEntryInc
  | .cmd _ v, .init .i9 => v == lcdClear
  | .cmd _ v, .init .i10 => v == lcdDispOnCb
  | .cmd _ v, .rndr .d0 => v == lcdClear
  | .cmd _ v, .rndr .d3 => v == lcdDdramL2
  | .dat _ v, .rndr .d1 => v == labelByte s.i && decide (s.i.toNat < 8)
  | .dat _ _, .rndr .d2b => decide (s.i.toNat < 4)
  | .dat _ v, .wint .n2 => v == digitOf s.n && s.n != 0
  | .init _, .main .m0 => true
  | .disp _, .main .m1 => true
  | .rndr _, .disp .l1 => true
  | .xpkt _, .disp .l2 => true
  | .clrf, .disp .l3 => true
  | _, _ => false

/-- Each frame stands on the one that called it. -/
def State.callsFit (s : State) : List Frame → Bool
  | f :: g :: rest => s.callFits f g && s.callsFit (g :: rest)
  | _ => true

/-- The top frame is at a micro-step, not at a `call` line; MAIN alone is the stack right after reset. -/
def State.topFits (s : State) : Bool :=
  match s.seq with
  | [] => true
  | .rdyw _ :: _ => true
  | .cmdi _ _ :: _ => true
  | .cmd l _ :: _ => l != .k0
  | .dat l _ :: _ => l != .t0
  | .init .i0 :: _ => s.cfg.tInit0.isSome
  | .init .i2 :: _ => true
  | .init .i4 :: _ => true
  | .init .i6 :: _ => s.cfg.tInit3.isSome
  | .init _ :: _ => false
  | .wint _ :: _ => false
  | .rndr .d2a :: _ => decide (s.i.toNat < 4)
  | .rndr _ :: _ => false
  | .txb _ _ :: _ => true
  | .xpkt _ :: _ => decide (s.i.toNat < 4)
  | .clrf :: _ => true
  | .disp .l0 :: _ => true
  | .disp _ :: _ => false
  | .main .m0 :: rest => rest.isEmpty
  | .main .m1 :: _ => false

/-- MAIN lies at the bottom in an autonomous build and nowhere in a hosted one (R32, R141, R142). -/
def bottomFits (top : Top) : List Frame → Bool
  | [] => top == .hosted
  | [.main _] => top == .autonomous
  | [_] => top == .hosted
  | _ :: g :: rest => bottomFits top (g :: rest)

/-! ## The invariants -/

/-- The bus word waiting for the LCD agent is one of the three shapes of R85, never `RS = 1, RW = 1`
(R93). -/
def State.wordFits (s : State) : Bool :=
  match s.lcdIn with
  | none => true
  | some w => decide (w.toNat < 3 * 2 ^ 8)

/-- The invariant of the machine: the parameters within the bounds of R9, `N` within its width (R30), and
lines, gating, stack and bus word as above. -/
structure State.Inv (s : State) : Prop where
  cfgWf  : s.cfg.Wf
  nFits  : s.n < 2 ^ s.cfg.intw
  lines  : s.linesFit = true
  ready  : s.readyFit = true
  calls  : s.callsFit s.seq = true
  top    : s.topFits = true
  bottom : bottomFits s.cfg.top s.seq = true
  word   : s.wordFits = true

/-- The lines at reset, from which a trace is scanned (R36, R116). -/
def resetLines : Lines := ⟨false, false, false, .out, Config.resetDbo⟩

/-- The lines after a list of events. -/
def Lines.afterAll (l : Lines) (evs : List Event) : Lines := evs.foldl Lines.after l

/-- What the LCD agent is once it has taken in the transaction that waits for it. -/
def State.lcdSettled (s : State) : Lcd :=
  match s.lcdIn with
  | none => s.lcd
  | some w =>
    match decodeLcdbus w.toNat with
    | .ok (.lcdWrcmd c) => s.lcd.takeAnyCommand s.cfg.lcdCols c
    | .ok (.lcdWrdata d) => s.lcd.takeData s.cfg.lcdCols d
    | .ok (.lcdRdstat b) => s.lcd.takeStatus b
    | _ => s.lcd

/-- The trace tells the state of the lines and of the display: scanning it from reset gives the lines, and
its transaction trace gives the LCD agent's view (R116, R158). -/
structure State.Told (s : State) : Prop where
  lines : resetLines.afterAll s.trace = s.lines
  lcd   : s.lcdSettled = lcdAfter s.cfg.lcdCols (transactions false resetLines s.trace)

end Sys2Proof.Machine
end

