-- ==== Sys2Proof/Certificates/Slice0/Obligations.lean ====
section
/-! DEFINITION. The statements for the provers, listed in OBLIGATIONS.json. -/

section

open Sys2Proof Sys2Proof.Machine

/-! ## Encoding and decoding -/

/-- Every well-formed instruction of every format is what its own word decodes to (R81 to R87, R91), for
every width `INTW`. What a byte operand is in a build with `INTW` 4 to 7, and so which bytes are well formed there, is
the model's choice (log entry 19): R83 takes `arg[7:0]`, which an `arg` that narrow has not. -/
def Obligations.DecodeEncode : Prop :=
  ∀ (intw : Nat) (i : Instr), i.wf intw = true → decode intw (encode intw i) = .ok i

/-- Which operand each operation code takes from `arg`, whatever the bits it ignores (R83). The byte of CMDI, CMD, DAT
and TXB where `INTW` is below 8 is the model's choice (log entry 19): R83 does not say what `arg[7:0]` is there. -/
def Obligations.RequestOperands : Prop :=
  ∀ (intw arg : Nat), arg < 2 ^ intw →
    decode intw (opreqWord intw 0x0 arg) = .ok .rdyw ∧
    decode intw (opreqWord intw 0x1 arg) = .ok (.cmdi (BitVec.ofNat 8 arg)) ∧
    decode intw (opreqWord intw 0x2 arg) = .ok (.cmd (BitVec.ofNat 8 arg)) ∧
    decode intw (opreqWord intw 0x3 arg) = .ok (.dat (BitVec.ofNat 8 arg)) ∧
    decode intw (opreqWord intw 0x4 arg) = .ok .init ∧
    decode intw (opreqWord intw 0x5 arg) = .ok (.wint arg) ∧
    decode intw (opreqWord intw 0x6 arg) = .ok .rndr ∧
    decode intw (opreqWord intw 0x7 arg) = .ok (.txb (BitVec.ofNat 8 arg)) ∧
    decode intw (opreqWord intw 0x8 arg) = .ok .xpkt ∧
    decode intw (opreqWord intw 0x9 arg) = .ok .clrf ∧
    decode intw (opreqWord intw 0xA arg) = .ok .disp

/-- R85, R93: every ten-bit word decodes by its two top bits, to the shape it has and the byte it carries;
the fourth combination is no instruction. -/
def Obligations.BusWordShapes : Prop :=
  ∀ (rs rw : Bool) (db : Byte),
    decode 32 ⟨.lcdbus, (busWord rs rw db).toNat⟩ =
      if rw then (if rs then .error .readOfDisplayData else .ok (.lcdRdstat db))
      else (if rs then .ok (.lcdWrdata db) else .ok (.lcdWrcmd db))

/-- Words written out from the spec's tables decode to the instructions they stand for. That a table row of 8 bits is
read as a command byte before it is read as a received byte, and that 40 and 16 bits are read as request and bus words,
is the model's choice (log entry 12). -/
def Obligations.WrittenWordsDecode : Prop :=
  decodeTableWord 40 0x0DEADBEEF = some .rdyw ∧
  decodeTableWord 40 0x1FFFFFF30 = some (.cmdi 0x30) ∧
  decodeTableWord 40 0x50000007B = some (.wint 123) ∧
  decodeTableWord 40 0xF00000000 = some .reservedF ∧
  decodeTableWord 16 0x241 = some (.lcdWrdata 0x41) ∧
  decodeTableWord 16 0x180 = some (.lcdRdstat 0x80) ∧
  decodeTableWord 8 0xC0 = some .ddramL2 ∧
  decodeTableWord 8 0x44 = some (.rxb 0x44)

/-! ## A step runs the instruction fetched -/

/-- The four ways an instruction is fetched: the LCD agent takes in a bus word; the receive agent's turn;
the sequencer's turn with a frame on top; the sequencer's turn when idle and hosted. The step uses up the
turn and the host's word and runs the instruction. The first way, the LCD agent's step before any agent of the block
moves, is the model's choice (log entry 7): R11 knows steps of RX and SEQ alone. So is it that the port carries the low
`4 + INTW` bits of what the host presents (log entry 11). -/
def Obligations.StepRunsDecodedInstruction : Prop :=
  ∀ (s : State) (i : Instr),
    (∀ w, s.lcdIn = some w → decode s.cfg.intw ⟨.lcdbus, w.toNat⟩ = .ok i → step s = exec i s) ∧
    (s.lcdIn = none → ∀ b, s.nextTurn = .rx b → step s = exec (.rxb b) s.takeTurn) ∧
    (s.lcdIn = none → s.nextTurn = .seq → ∀ f rest, s.seq = f :: rest → frameInstr s.n f = some i →
      step s = exec i s.takeTurn) ∧
    (s.lcdIn = none → s.nextTurn = .seq → s.seq = [] → s.cfg.top = .hosted →
      ∀ w, s.nextOffer = some w → decode s.cfg.intw (portRequest s.cfg.intw w) = .ok i →
        step s = exec i s.takeTurn.takeOffer)

/-- A table row's word that has been presented is run by the very next step, and nothing else changes. What is set to
present it (for a request a hosted build with `INTW = 32`, idle, nothing waiting), and that a row of 8 bits is read as a
command byte before a received byte, is the model's choice (log entries 14 and 12). -/
def Obligations.PresentedWordRunsNext : Prop :=
  ∀ (s : State) (nbits w : Nat) (i : Instr), decodeTableWord nbits w = some i →
    step (s.withFetchWord nbits w) =
      exec i (match i with
        | .rxb _ => { s with lcdIn := none }
        | .lcdWrcmd _ | .lcdWrdata _ | .lcdRdstat _ | .fset8 | .fset8TwoLine | .entryInc | .clear
        | .dispOnCb | .ddramL2 => s.withFetchWord nbits w
        | _ => { s with cfg := { s.cfg with top := .hosted, intw := 32 }, seq := [], lcdIn := none })

/-- While the sequencer is busy no request is accepted: what the host presents stays (R142). -/
def Obligations.BusySequencerTakesNoRequest : Prop :=
  ∀ (s t : State), s.seq ≠ [] → step s = .next t → t.host = s.host

/-- An idle hosted sequencer whose host presents nothing leaves the block as it is. R142 does not say what a step is
then: the model's choice (log entry 11). -/
def Obligations.IdleWithoutRequestChangesNothing : Prop :=
  ∀ (s : State), s.Idle → s.nextTurn = .seq → s.cfg.top = .hosted → s.nextOffer = none →
    step s = .next { s with turns := s.turns.tail, host := s.host.tail }

/-! ## What each instruction does

Where a statement counts steps, the LCD agent's are among them, one after each sample and one after each write: the
model's choice (log entry 7). -/

/-- Every instruction but the reserved codes runs in every state (R160). That exec of an operation is one step of it,
and with another operation's frame on top leaves the state as it is, is the model's choice (log entry 1). -/
def Obligations.OnlyReservedCodesStop : Prop :=
  ∀ (i : Instr) (s : State),
    i ≠ .reservedB → i ≠ .reservedC → i ≠ .reservedD → i ≠ .reservedE → i ≠ .reservedF →
      ∃ t, exec i s = .next t

/-- R92: each reserved code is refused, in every state. -/
def Obligations.ReservedCodesAreRefused : Prop :=
  ∀ (s : State),
    exec .reservedB s = .refused (.reservedOpcode 0xB) ∧
    exec .reservedC s = .refused (.reservedOpcode 0xC) ∧
    exec .reservedD s = .refused (.reservedOpcode 0xD) ∧
    exec .reservedE s = .refused (.reservedOpcode 0xE) ∧
    exec .reservedF s = .refused (.reservedOpcode 0xF)

/-- RDYW from an idle sequencer, through any number of busy samples, to its end: the events, the lines, `S`,
and nothing else changed (R111). -/
def Obligations.RdywCompletes : Prop :=
  ∀ (s : State) (r : Read) (bs : List Byte) (ts : List Turn),
    s.Idle → s.Reads [r] bs → s.SeqTurns r.turns ts →
    ∃ t, exec .rdyw s = .next t ∧
      steps (r.turns + r.bytes.length) t = .next
        { s with
          dir := .out, rs := false, rw := false, e := false, stat := r.last
          turns := { s.turns with given := ts }
          samples := { s.samples with given := bs }
          trace := s.trace ++ [.opStart .rdyw] ++ rdywEvents s.cfg.tPulse r ++ [.opDone .rdyw]
          lcd := s.lcd.takeAll s.cfg.lcdCols r.txns }

/-- CMDI from an idle sequencer to its end: six micro-steps and the LCD's (R112). -/
def Obligations.CmdiCompletes : Prop :=
  ∀ (s : State) (c : Byte) (ts : List Turn), s.Idle → s.SeqTurns 6 ts →
    ∃ t, exec (.cmdi c) s = .next t ∧
      steps 7 t = .next
        { s with
          rs := false, rw := false, e := false, dbo := c, v := c
          turns := { s.turns with given := ts }
          trace := s.trace ++ [.opStart .cmdi] ++ writeEvents s.cfg.tPulse false c ++ [.opDone .cmdi]
          lcd := s.lcd.takeAnyCommand s.cfg.lcdCols c }

/-- CMD from an idle sequencer to its end (R113). -/
def Obligations.CmdCompletes : Prop :=
  ∀ (s : State) (c : Byte) (r : Read) (bs : List Byte) (ts : List Turn),
    s.Idle → s.Reads [r] bs → s.SeqTurns r.writeTurns ts →
    ∃ t, exec (.cmd c) s = .next t ∧
      steps r.writeSteps t = .next
        { s with
          dir := .out, rs := false, rw := false, e := false, dbo := c, v := c, stat := r.last
          turns := { s.turns with given := ts }
          samples := { s.samples with given := bs }
          trace := s.trace ++ [.opStart .cmd] ++ cmdEvents s.cfg.tPulse r c ++ [.opDone .cmd]
          lcd := s.lcd.takeAll s.cfg.lcdCols (cmdTxns r c) }

/-- DAT from an idle sequencer to its end (R114). -/
def Obligations.DatCompletes : Prop :=
  ∀ (s : State) (d : Byte) (r : Read) (bs : List Byte) (ts : List Turn),
    s.Idle → s.Reads [r] bs → s.SeqTurns r.writeTurns ts →
    ∃ t, exec (.dat d) s = .next t ∧
      steps r.writeSteps t = .next
        { s with
          dir := .out, rs := true, rw := false, e := false, dbo := d, v := d, stat := r.last
          turns := { s.turns with given := ts }
          samples := { s.samples with given := bs }
          trace := s.trace ++ [.opStart .dat] ++ datEvents s.cfg.tPulse r d ++ [.opDone .dat]
          lcd := s.lcd.takeAll s.cfg.lcdCols (datTxns r d) }

/-- INIT from an idle sequencer to its end, with or without the optional delays (R120). -/
def Obligations.InitCompletes : Prop :=
  ∀ (s : State) (r1 r2 r3 r4 : Read) (bs : List Byte) (ts : List Turn),
    s.Idle → s.Reads [r1, r2, r3, r4] bs → s.SeqTurns (initTurns s.cfg [r1, r2, r3, r4]) ts →
    ∃ t, exec .init s = .next t ∧
      steps (initSteps s.cfg [r1, r2, r3, r4]) t = .next
        { s with
          dir := .out, rs := false, rw := false, e := false
          dbo := lcdDispOnCb, v := lcdDispOnCb, stat := r4.last
          turns := { s.turns with given := ts }
          samples := { s.samples with given := bs }
          trace := s.trace ++ [.opStart .init] ++ initEvents s.cfg r1 r2 r3 r4 ++ [.opDone .init]
          lcd := s.lcd.takeAll s.cfg.lcdCols (initTxns r1 r2 r3 r4) }

/-- WINT of a number above 0: its decimal digits, least significant first, one DAT each (R122). -/
def Obligations.WintWritesDigitsReversed : Prop :=
  ∀ (s : State) (n : Nat) (rs : List Read) (bs : List Byte) (ts : List Turn),
    s.Idle → 0 < n → n < 2 ^ s.cfg.intw → rs.length = (Nat.digits 10 n).length → s.Reads rs bs →
    s.SeqTurns (rs.map Read.writeTurns).sum ts →
    ∃ t u, exec (.wint n) s = .next t ∧
      steps (rs.map Read.writeSteps).sum t = .next u ∧
      u = { s with
        dir := .out, rs := true, rw := false, e := false, n := 0
        dbo := u.dbo, v := u.dbo, stat := u.stat
        turns := { s.turns with given := ts }
        samples := { s.samples with given := bs }
        trace := s.trace ++ [.opStart .wint] ++
          textEvents s.cfg.tPulse rs ((Nat.digits 10 n).map digitChar) ++ [.opDone .wint]
        lcd := s.lcd.takeAll s.cfg.lcdCols (textTxns rs ((Nat.digits 10 n).map digitChar)) } ∧
      some u.dbo = ((Nat.digits 10 n).map digitChar).getLast? ∧
      some u.stat = (rs.map Read.last).getLast?

/-- WINT of 0 is accepted and completed in the one accepting step, with no visible event (R122 (a), R142). -/
def Obligations.WintZeroWritesNothing : Prop :=
  ∀ (s : State), s.seq = [] →
    exec (.wint 0) s = .next
      { s with n := 0, trace := s.trace ++ [.opStart .wint, .opDone .wint] }

/-- RNDR from an idle sequencer to its end: clear, label, packet, second line (R123). What `I` is left at
is not in the rule, and the statement leaves it open. -/
def Obligations.RndrCompletes : Prop :=
  ∀ (s : State) (r0 : Read) (rl : List Read) (q0 q1 q2 q3 r1 : Read) (bs : List Byte) (ts : List Turn),
    s.Idle → rl.length = 8 → s.Reads (r0 :: rl ++ [q0, q1, q2, q3, r1]) bs →
    s.SeqTurns (rndrTurns (r0 :: rl ++ [q0, q1, q2, q3, r1])) ts →
    ∃ t u, exec .rndr s = .next t ∧
      steps (rndrSteps (r0 :: rl ++ [q0, q1, q2, q3, r1])) t = .next u ∧
      u = { s with
        dir := .out, rs := false, rw := false, e := false
        dbo := lcdDdramL2, v := lcdDdramL2, stat := r1.last, i := u.i
        turns := { s.turns with given := ts }
        samples := { s.samples with given := bs }
        trace := s.trace ++ [.opStart .rndr] ++ rndrEvents s.cfg.tPulse s.pkt r0 rl q0 q1 q2 q3 r1 ++
          [.opDone .rndr]
        lcd := s.lcd.takeAll s.cfg.lcdCols (rndrTxns s.pkt r0 rl q0 q1 q2 q3 r1) }

/-- writeText from a host: the request words of its expansion, presented one after another to an idle hosted
sequencer, write the text, one DAT a character in order; the empty text does nothing (R95, R121, R142). -/
def Obligations.HostedTextIsWritten : Prop :=
  ∀ (s : State) (ds : List Byte) (rs : List Read) (bs : List Byte) (os : List (Option Nat)) (ts : List Turn),
    s.Idle → s.cfg.top = .hosted → 8 ≤ s.cfg.intw → rs.length = ds.length → s.Reads rs bs →
    s.host.given = ((expandWtxt ds).map fun i => some (encode s.cfg.intw i).bits) ++ os →
    s.SeqTurns (ds.length + (rs.map Read.writeTurns).sum) ts →
    ∃ u, steps (ds.length + (rs.map Read.writeSteps).sum) s = .next u ∧
      u = { s with
        dir := u.dir, rs := u.rs, rw := u.rw, e := u.e, dbo := u.dbo, v := u.v, stat := u.stat
        turns := { s.turns with given := ts }
        samples := { s.samples with given := bs }
        host := { s.host with given := os }
        trace := s.trace ++ (List.zipWith
          (fun r d => [Event.opStart .dat] ++ datEvents s.cfg.tPulse r d ++ [.opDone .dat]) rs ds).flatten
        lcd := s.lcd.takeAll s.cfg.lcdCols (textTxns rs ds) } ∧
      (ds ≠ [] → u.dir = .out ∧ u.rs = true ∧ u.rw = false ∧ u.e = false ∧ some u.dbo = ds.getLast?) ∧
      (ds = [] → u.dir = s.dir ∧ u.rs = s.rs ∧ u.rw = s.rw ∧ u.e = s.e ∧ u.dbo = s.dbo ∧ u.v = s.v ∧
        u.stat = s.stat)

/-- TXB from an idle sequencer to its end, through any number of polls that say "not ready" (R131). -/
def Obligations.TxbCompletes : Prop :=
  ∀ (s : State) (b : Byte) (k : Nat) (bs : List Bool) (ts : List Turn),
    s.Idle → s.Polls [k] bs → s.SeqTurns (k + 2) ts →
    ∃ t, exec (.txb b) s = .next t ∧
      steps (k + 2) t = .next
        { s with
          v := b
          turns := { s.turns with given := ts }
          txhw := { s.txhw with given := bs }
          trace := s.trace ++ [.opStart .txb] ++ pollEvents k ++ [.txWrite b, .opDone .txb] }

/-- XPKT from an idle sequencer to its end: the four packet bytes in order, each read after its poll
succeeded (R133). What `I` is left at is not in the rule, and the statement leaves it open. -/
def Obligations.XpktCompletes : Prop :=
  ∀ (s : State) (k0 k1 k2 k3 : Nat) (bs : List Bool) (ts : List Turn),
    s.Idle → s.Polls [k0, k1, k2, k3] bs → s.SeqTurns (xpktTurns [k0, k1, k2, k3]) ts →
    ∃ t u, exec .xpkt s = .next t ∧
      steps (xpktTurns [k0, k1, k2, k3]) t = .next u ∧
      u = { s with
        v := s.pkt.p3, i := u.i
        turns := { s.turns with given := ts }
        txhw := { s.txhw with given := bs }
        trace := s.trace ++ [.opStart .xpkt] ++ xpktEvents s.pkt k0 k1 k2 k3 ++ [.opDone .xpkt] }

/-- CLRF: one micro-step that clears the flag whatever its value and changes nothing else, whether a host
asked for it or DISP called it (R134). That MAIN's DISP ends and starts with `OpDone` and `OpStart` there is the
model's deduction (log entry 6). -/
def Obligations.ClrfCompletes : Prop :=
  ∀ (s : State),
    (s.seq = [] → ∃ t, exec .clrf s = .next t ∧
      exec .clrf t = .next
        { s with ready := false, trace := s.trace ++ [.opStart .clrf, .flagClear, .opDone .clrf] }) ∧
    (s.seq = [.clrf, .disp .l3] → exec .clrf s = .next
      { s with ready := false, seq := [], trace := s.trace ++ [.flagClear, .opDone .disp] }) ∧
    (s.seq = [.clrf, .disp .l3, .main .m1] → exec .clrf s = .next
      { s with
        ready := false, seq := [.disp .l0, .main .m1]
        trace := s.trace ++ [.flagClear, .opDone .disp, .opStart .disp] })

/-- DISP with the flag clear is the one micro-step that reads it, hosted or in MAIN's loop (R140 (a),
R141). That `OpDone` and `OpStart` bracket a DISP in MAIN's loop is the model's deduction (log entry 6). -/
def Obligations.DispWithFlagClear : Prop :=
  ∀ (s : State), s.ready = false →
    (s.seq = [] → ∃ t, exec .disp s = .next t ∧
      exec .disp t = .next
        { s with trace := s.trace ++ [.opStart .disp, .flagRead false, .opDone .disp] }) ∧
    (s.seq = [.disp .l0, .main .m1] → exec .disp s = .next
      { s with trace := s.trace ++ [.flagRead false, .opDone .disp, .opStart .disp] })

/-- DISP with the flag set, from an idle sequencer to its end: render, echo, clear, in this order and each
once (R140 (b)). -/
def Obligations.DispServesPacket : Prop :=
  ∀ (s : State) (r0 : Read) (rl : List Read) (q0 q1 q2 q3 r1 : Read) (k0 k1 k2 k3 : Nat)
    (bs : List Byte) (ps : List Bool) (ts : List Turn),
    s.Idle → s.ready = true → rl.length = 8 → s.Reads (r0 :: rl ++ [q0, q1, q2, q3, r1]) bs →
    s.Polls [k0, k1, k2, k3] ps →
    s.SeqTurns (1 + rndrTurns (r0 :: rl ++ [q0, q1, q2, q3, r1]) + xpktTurns [k0, k1, k2, k3] + 1) ts →
    ∃ t u, exec .disp s = .next t ∧
      steps (1 + rndrSteps (r0 :: rl ++ [q0, q1, q2, q3, r1]) + xpktTurns [k0, k1, k2, k3] + 1) t =
        .next u ∧
      u = { s with
        ready := false, dir := .out, rs := false, rw := false, e := false
        dbo := lcdDdramL2, v := s.pkt.p3, stat := r1.last, i := u.i
        turns := { s.turns with given := ts }
        samples := { s.samples with given := bs }
        txhw := { s.txhw with given := ps }
        trace := s.trace ++ [.opStart .disp, .flagRead true] ++
          rndrEvents s.cfg.tPulse s.pkt r0 rl q0 q1 q2 q3 r1 ++ xpktEvents s.pkt k0 k1 k2 k3 ++
          [.flagClear, .opDone .disp]
        lcd := s.lcd.takeAll s.cfg.lcdCols (rndrTxns s.pkt r0 rl q0 q1 q2 q3 r1) }

/-- RXB: the byte goes where the index points, the index goes on or back to 0, the flag is set with the
fourth byte and never cleared, whatever it was; nothing else changes (R130). -/
def Obligations.RxbStoresByte : Prop :=
  ∀ (s : State) (b : Byte),
    exec (.rxb b) s = .next
      { s with
        pkt := s.pkt.set s.rxidx b
        rxidx := if s.rxidx = 3 then 0 else s.rxidx + 1
        ready := if s.rxidx = 3 then true else s.ready
        trace := s.trace ++ [.rxByte b s.rxidx (if s.rxidx = 3 then true else s.ready)] }

/-- Four bytes received at a packet boundary are the packet, in the order they came (R55, R130). -/
def Obligations.FourBytesMakePacket : Prop :=
  ∀ (s : State) (b0 b1 b2 b3 : Byte), s.rxidx = 0 →
    ∃ t1 t2 t3 t4, exec (.rxb b0) s = .next t1 ∧ exec (.rxb b1) t1 = .next t2 ∧
      exec (.rxb b2) t2 = .next t3 ∧ exec (.rxb b3) t3 = .next t4 ∧
      t4.pkt = ⟨b0, b1, b2, b3⟩ ∧ t4.rxidx = 0 ∧ t4.ready = true ∧
      t1.ready = s.ready ∧ t2.ready = s.ready ∧ t3.ready = s.ready

/-- Receive steps alone count bytes modulo four, however many arrive (R22, R57). -/
def Obligations.ReceiveIndexCountsModuloFour : Prop :=
  ∀ (bs : List Byte) (s t : State), s.lcdIn = none → s.turns.given = bs.map .rx →
    steps bs.length s = .next t → t.rxidx.toNat = (s.rxidx.toNat + bs.length) % 4

/-- The race of R134 (c): a fourth byte before the clear is wiped out with it, after the clear it is not;
the packet and the index come out the same. -/
def Obligations.ClearAndFourthByteRace : Prop :=
  ∀ (s : State) (b : Byte) (rest : List Frame), s.seq = .clrf :: rest → rest = [.disp .l3] →
    s.rxidx = 3 →
    ∃ t u t' u', exec (.rxb b) s = .next t ∧ exec .clrf t = .next u ∧
      exec .clrf s = .next t' ∧ exec (.rxb b) t' = .next u' ∧
      u.ready = false ∧ u'.ready = true ∧ u.pkt = u'.pkt ∧ u.rxidx = u'.rxidx

/-- The packet byte of RNDR is read live, in the micro-step before its DAT's ready-wait, and is then that
DAT's own: a byte received afterwards changes neither the frames nor `V` (R123 (a) and (b), R31). -/
def Obligations.RndrReadsPacketLive : Prop :=
  ∀ (s : State) (rest : List Frame) (b : Byte), s.seq = .rndr .d2a :: rest →
    ∃ t u, exec .rndr s = .next t ∧ exec (.rxb b) t = .next u ∧
      t = { s with
        v := s.pkt.get (s.i.setWidth 2)
        seq := .rdyw .w0 :: .dat .t0 (s.pkt.get (s.i.setWidth 2)) :: .rndr .d2b :: rest
        trace := s.trace ++ [.pktRead (s.i.setWidth 2) (s.pkt.get (s.i.setWidth 2))] } ∧
      u.seq = t.seq ∧ u.v = t.v

/-! ## The LCD's rows -/

/-- Each of the six command bytes is the bus word that writes it, and nothing else (R87, R150 to R155). -/
def Obligations.CommandBytesAreBusWrites : Prop :=
  ∀ (s : State),
    exec .fset8 s = exec (.lcdWrcmd 0x30) s ∧ exec .fset8TwoLine s = exec (.lcdWrcmd 0x38) s ∧
    exec .entryInc s = exec (.lcdWrcmd 0x06) s ∧ exec .clear s = exec (.lcdWrcmd 0x01) s ∧
    exec .dispOnCb s = exec (.lcdWrcmd 0x0F) s ∧ exec .ddramL2 s = exec (.lcdWrcmd 0xC0) s

/-- The effect of each command byte on a known view, when it arrives gated and after a complete INIT, or as the next
write of an INIT in progress; before that the view becomes unknown (U10). The block's own state is untouched (R150 to
R155, R159). How the model tells a gated write and an INIT in progress is its own choice (log entry 8). -/
def Obligations.CommandBytesActOnView : Prop :=
  ∀ (s : State) (k : Screen), s.lcd.view = .known k → s.lcd.gated = true →
    ∃ l1 l2 l3 l4 l5 l6,
      exec .fset8 s = .next { s with lcdIn := none, lcd := l1 } ∧
      exec .fset8TwoLine s = .next { s with lcdIn := none, lcd := l2 } ∧
      exec .entryInc s = .next { s with lcdIn := none, lcd := l3 } ∧
      exec .clear s = .next { s with lcdIn := none, lcd := l4 } ∧
      exec .dispOnCb s = .next { s with lcdIn := none, lcd := l5 } ∧
      exec .ddramL2 s = .next { s with lcdIn := none, lcd := l6 } ∧
      l1.view = (if s.lcd.initDone then .known { k with fmt := .eightBit } else .unknown) ∧
      l2.view =
        (if s.lcd.initDone ∨ s.lcd.initAt = 3 then .known { k with fmt := .eightBitTwoLine5x7 } else .unknown) ∧
      l3.view =
        (if s.lcd.initDone ∨ s.lcd.initAt = 4 then .known { k with entry := .incrementNoShift } else .unknown) ∧
      l4.view =
        (if s.lcd.initDone ∨ s.lcd.initAt = 5 then .known
          { k with
            line1 := List.replicate s.cfg.lcdCols .blank, line2 := List.replicate s.cfg.lcdCols .blank
            cur := some (.one, 0) }
        else .unknown) ∧
      l5.view =
        (if s.lcd.initDone ∨ s.lcd.initAt = 6 then .known { k with on := true, cursorOn := true, blink := true }
        else .unknown) ∧
      l6.view = (if s.lcd.initDone then .known { k with cur := some (.two, 0) } else .unknown)

/-- The three function sets of power-on, which no status read can gate, act on the view as R150 says. Any other
write with no status read that was not busy straight before it may reach a busy LCD, and the view becomes unknown
(R159, R182; which writes these are is the model's choice: log entry 8). -/
def Obligations.UngatedWrites : Prop :=
  ∀ (s : State) (c d : Byte), s.lcd.gated = false →
    (∀ k, s.lcd.view = .known k → s.lcd.powerOn = true → s.lcd.fsets < 3 →
      ∃ l, exec .fset8 s = .next { s with lcdIn := none, lcd := l } ∧
        l.view = .known { k with fmt := .eightBit }) ∧
    (c ≠ 0x30 ∨ s.lcd.powerOn = false ∨ 3 ≤ s.lcd.fsets →
      ∃ l, exec (.lcdWrcmd c) s = .next { s with lcdIn := none, lcd := l } ∧ l.view = .unknown) ∧
    (∃ l, exec (.lcdWrdata d) s = .next { s with lcdIn := none, lcd := l } ∧ l.view = .unknown)

/-- A command write of a byte that is none of the six leaves an unknown view (R159). -/
def Obligations.OtherCommandByteMakesViewUnknown : Prop :=
  ∀ (s : State) (c : Byte), c ∉ [0x30, 0x38, 0x06, 0x01, 0x0F, 0xC0] →
    ∃ l, exec (.lcdWrcmd c) s = .next { s with lcdIn := none, lcd := l } ∧ l.view = .unknown

/-- A gated data write after a complete INIT: where the entry mode is set and the line has room it fills the cell and
the cursor advances; outside that the view becomes unknown (R156). Before a complete INIT it leaves the view unknown
(R159, U10). How the model tells a gated write and a complete INIT is its own choice (log entry 8). -/
def Obligations.DataWritePlacesCharacter : Prop :=
  ∀ (s : State) (k : Screen) (d : Byte), s.lcd.view = .known k → s.lcd.gated = true →
    ∃ l, exec (.lcdWrdata d) s = .next { s with lcdIn := none, lcd := l } ∧
      (s.lcd.initDone = true →
        (∀ c, k.entry = .incrementNoShift → k.cur = some (.one, c) → c < s.cfg.lcdCols →
          l.view = .known { k with line1 := k.line1.set c (.byte d), cur := some (.one, c + 1) }) ∧
        (∀ c, k.entry = .incrementNoShift → k.cur = some (.two, c) → c < s.cfg.lcdCols →
          l.view = .known { k with line2 := k.line2.set c (.byte d), cur := some (.two, c + 1) }) ∧
        (k.entry = .unset ∨ k.cur = none ∨ (∃ x c, k.cur = some (x, c) ∧ s.cfg.lcdCols ≤ c) →
          l.view = .unknown)) ∧
      (s.lcd.initDone = false → l.view = .unknown)

/-- A status read changes nothing of the view and nothing of the block (R157). -/
def Obligations.StatusReadLeavesView : Prop :=
  ∀ (s : State) (b : Byte),
    ∃ l, exec (.lcdRdstat b) s = .next { s with lcdIn := none, lcd := l } ∧ l.view = s.lcd.view

/-- An unknown view stays unknown through any transactions without a `WRCMD(0x01)`, unless they take up an INIT just
before its last write, and through a `WRCMD(0x01)` while no INIT has been complete. Two things end it: a gated
`WRCMD(0x01)` after a complete INIT, which leaves both lines blank, the cursor at the start of line 1 and INIT's entry
mode (R153, R159; the entry mode is deduced from R158, and the other settings are free), and the last write of a
complete INIT, which leaves the view R158 gives (R158, U10). What tells the agent of a gated write and of an INIT is the
model's choice (log entries 8 and 9). -/
def Obligations.UnknownViewStaysUnknown : Prop :=
  ∀ (cols : Nat) (ts : List Txn) (l : Lcd), l.view = .unknown →
    ((∀ c, Txn.wrcmd c ∈ ts → c ≠ 0x01) → l.initAt ≠ 6 → (l.takeAll cols ts).view = .unknown) ∧
    (l.initDone = false → (l.take cols (.wrcmd 0x01)).view = .unknown) ∧
    (l.initDone = true → l.gated = true →
      ∃ k, (l.take cols (.wrcmd 0x01)).view = .known k ∧ k.line1 = List.replicate cols .blank ∧
        k.line2 = List.replicate cols .blank ∧ k.cur = some (.one, 0) ∧ k.entry = .incrementNoShift) ∧
    (l.initAt = 6 → l.gated = true →
      (l.take cols (.wrcmd 0x0F)).view = .known
        { fmt := .eightBitTwoLine5x7, entry := .incrementNoShift, on := true, cursorOn := true, blink := true
          line1 := List.replicate cols .blank, line2 := List.replicate cols .blank, cur := some (.one, 0) })

/-- The view after the transactions of a complete INIT on a live LCD, whatever came before them: from power-on, after
another INIT, from an unknown view (R158). The agent has then noted that an INIT has been complete. That the view of R158
holds after an unknown view too is the model's deduction (log entry 9), and how it tells an INIT its choice (log
entry 8). -/
def Obligations.InitConfiguresView : Prop :=
  ∀ (cols : Nat) (l : Lcd) (r1 r2 r3 r4 : Read), r1.Live → r2.Live → r3.Live → r4.Live →
    (l.takeAll cols (initTxns r1 r2 r3 r4)).initDone = true ∧
    (l.takeAll cols (initTxns r1 r2 r3 r4)).view = .known
      { fmt := .eightBitTwoLine5x7, entry := .incrementNoShift, on := true, cursorOn := true, blink := true
        line1 := List.replicate cols .blank, line2 := List.replicate cols .blank, cur := some (.one, 0) }

/-- The view after the transactions of a complete RNDR, once an INIT has been complete: from a known view with INIT's
entry mode the label and the four packet bytes on line 1, every other cell blank, the cursor at the start of line 2
(R158); and the same cells and cursor from an unknown view (R158, R159; the entry mode there is the model's deduction,
log entry 9). How the model tells a gated write and a complete INIT is its choice (log entry 8). -/
def Obligations.RndrShowsCommandScreen : Prop :=
  ∀ (cols : Nat) (l : Lcd) (p : Packet) (r0 : Read) (rl : List Read) (q0 q1 q2 q3 r1 : Read),
    12 ≤ cols → l.initDone = true → rl.length = 8 → (∀ r ∈ r0 :: rl ++ [q0, q1, q2, q3, r1], r.Live) →
    (∀ k, l.view = .known k → k.entry = .incrementNoShift →
      (l.takeAll cols (rndrTxns p r0 rl q0 q1 q2 q3 r1)).view = .known
        { k with
          line1 := (label ++ [p.p0, p.p1, p.p2, p.p3]).map .byte ++ List.replicate (cols - 12) .blank
          line2 := List.replicate cols .blank
          cur := some (.two, 0) }) ∧
    (l.view = .unknown →
      ∃ k, (l.takeAll cols (rndrTxns p r0 rl q0 q1 q2 q3 r1)).view = .known k ∧
        k.line1 = (label ++ [p.p0, p.p1, p.p2, p.p3]).map .byte ++ List.replicate (cols - 12) .blank ∧
        k.line2 = List.replicate cols .blank ∧ k.cur = some (.two, 0))

/-- The transaction trace of INIT in the form with delays, from lines with `E = 0` (R116, R120). -/
def Obligations.InitTransactionTrace : Prop :=
  ∀ (l : Lines) (c : Config) (r1 r2 r3 r4 : Read), l.e = false →
    transactions true l (initEvents c r1 r2 r3 r4) =
      c.tInit0.toList.map .delay ++ [.wrcmd 0x30, .delay c.tInit1, .wrcmd 0x30, .delay c.tInit2, .wrcmd 0x30] ++
      c.tInit3.toList.map .delay ++ cmdTxns r1 0x38 ++ cmdTxns r2 0x06 ++ cmdTxns r3 0x01 ++ cmdTxns r4 0x0F

/-- The transaction trace of RNDR: fourteen writes, each after its status reads (R116, R123). -/
def Obligations.RndrTransactionTrace : Prop :=
  ∀ (l : Lines) (tp : Nat) (p : Packet) (r0 : Read) (rl : List Read) (q0 q1 q2 q3 r1 : Read),
    l.e = false → rl.length = 8 →
    transactions false l (rndrEvents tp p r0 rl q0 q1 q2 q3 r1) =
      cmdTxns r0 0x01 ++ textTxns rl [0x43, 0x6F, 0x6D, 0x6D, 0x61, 0x6E, 0x64, 0x3A] ++
      datTxns q0 p.p0 ++ datTxns q1 p.p1 ++ datTxns q2 p.p2 ++ datTxns q3 p.p3 ++ cmdTxns r1 0xC0

/-! ## Frames: what a step of an instruction leaves unchanged

That a transaction waits in `lcdIn` for a step of the LCD agent is the model's choice (log entry 7). -/

/-- RDYW, CMDI, CMD and DAT: outside the fields listed for each nothing changes; in particular neither the
packet nor `RXIDX` nor `READY`. CMDI does not write `DIR`, RDYW does not write `DBO`. A return may start
the caller's next call, which loads `V`, `I` or `N` (R111 to R114, R31). -/
def Obligations.PrimitivesFrame : Prop :=
  ∀ (s t : State) (b : Byte), s.Inv →
    (exec .rdyw s = .next t → t =
      { s with dir := t.dir, rs := t.rs, rw := t.rw, e := t.e, stat := t.stat, seq := t.seq,
               samples := t.samples, trace := t.trace, lcdIn := t.lcdIn }) ∧
    (exec (.cmdi b) s = .next t → t =
      { s with rs := t.rs, rw := t.rw, e := t.e, dbo := t.dbo, v := t.v, seq := t.seq,
               trace := t.trace, lcdIn := t.lcdIn }) ∧
    (exec (.cmd b) s = .next t → t =
      { s with rs := t.rs, rw := t.rw, e := t.e, dbo := t.dbo, v := t.v, i := t.i, seq := t.seq,
               trace := t.trace, lcdIn := t.lcdIn }) ∧
    (exec (.dat b) s = .next t → t =
      { s with rs := t.rs, rw := t.rw, e := t.e, dbo := t.dbo, v := t.v, i := t.i, n := t.n, seq := t.seq,
               trace := t.trace, lcdIn := t.lcdIn })

/-- INIT, WINT and RNDR: their own steps touch no line, no flag and no packet byte (R120, R122, R123). -/
def Obligations.CompositesFrame : Prop :=
  ∀ (s t : State) (n : Nat), s.Inv →
    (exec .init s = .next t → t = { s with v := t.v, seq := t.seq, trace := t.trace }) ∧
    (exec (.wint n) s = .next t → t = { s with n := t.n, v := t.v, seq := t.seq, trace := t.trace }) ∧
    (exec .rndr s = .next t → t = { s with v := t.v, seq := t.seq, trace := t.trace })

/-- TXB, XPKT, CLRF and DISP: no line, no packet byte, no `RXIDX`; only CLRF writes `READY` (R131, R133,
R134, R140). -/
def Obligations.HandoffFrame : Prop :=
  ∀ (s t : State) (b : Byte), s.Inv →
    (exec (.txb b) s = .next t → t = { s with v := t.v, seq := t.seq, txhw := t.txhw, trace := t.trace }) ∧
    (exec .xpkt s = .next t → t =
      { s with v := t.v, i := t.i, seq := t.seq, txhw := t.txhw, trace := t.trace }) ∧
    (exec .clrf s = .next t → t = { s with ready := t.ready, seq := t.seq, trace := t.trace }) ∧
    (exec .disp s = .next t → t = { s with v := t.v, seq := t.seq, trace := t.trace })

/-- The LCD's rows change the LCD agent alone (R33). That they are steps of that agent is the model's choice (log
entry 7). -/
def Obligations.LcdRowsFrame : Prop :=
  ∀ (s t : State) (i : Instr) (b : Byte),
    i ∈ [.lcdWrcmd b, .lcdWrdata b, .lcdRdstat b, .fset8, .fset8TwoLine, .entryInc, .clear, .dispOnCb,
      .ddramL2] →
    exec i s = .next t → t = { s with lcdIn := none, lcd := t.lcd }

/-- The rights of the two contexts (R171): a step that is not the receive agent's writes neither `PKT` nor
`RXIDX` and at most clears `READY`; the receive agent's writes nothing of the foreground's and at most
sets `READY`. That a step may be the LCD agent's, which is neither context's, is the model's choice (log entry 7). -/
def Obligations.ContextRights : Prop :=
  ∀ (s t : State), step s = .next t →
    ((s.lcdIn.isSome ∨ s.nextTurn = .seq) →
      t.pkt = s.pkt ∧ t.rxidx = s.rxidx ∧ (t.ready = true → s.ready = true)) ∧
    (s.lcdIn = none → ∀ b, s.nextTurn = .rx b →
      t = { s with pkt := t.pkt, rxidx := t.rxidx, ready := t.ready, turns := s.turns.tail,
                   trace := t.trace } ∧
      (s.ready = true → t.ready = true) ∧
      ∀ j, j ≠ s.rxidx → t.pkt.get j = s.pkt.get j)

/-- `READY` rises only in the receive step that stores a fourth byte, and falls only in CLRF's (R23). That neither can
be while a transaction waits for the LCD agent is the model's choice (log entry 7). -/
def Obligations.ReadyChangesOnlyByRxbAndClrf : Prop :=
  ∀ (s t : State), step s = .next t →
    (s.ready = false → t.ready = true →
      s.lcdIn = none ∧ s.rxidx = 3 ∧ ∃ b, s.nextTurn = .rx b) ∧
    (s.ready = true → t.ready = false →
      s.lcdIn = none ∧ s.nextTurn = .seq ∧ ∃ rest, s.seq = .clrf :: rest)

/-- No step changes a parameter, and a step only adds to the trace (R12, R35). -/
def Obligations.StepKeepsConfigAndExtendsTrace : Prop :=
  ∀ (s t : State), step s = .next t → t.cfg = s.cfg ∧ s.trace <+: t.trace

/-! ## Reset and boot -/

/-- The values R36 gives for reset, in every build; what it leaves unspecified is not constrained. -/
def Obligations.ResetValues : Prop :=
  ∀ (c : Config),
    (State.resetWith c).rxidx = 0 ∧ (State.resetWith c).ready = false ∧ (State.resetWith c).rs = false ∧
    (State.resetWith c).rw = false ∧ (State.resetWith c).e = false ∧ (State.resetWith c).dir = .out ∧
    (c.top = .autonomous → (State.resetWith c).seq = [.main .m0]) ∧
    (c.top = .hosted → (State.resetWith c).seq = [])

/-- The sequencer's first micro-step after reset in an autonomous build: `I0` if `T_INIT_0` is configured,
otherwise `C0` of the first immediate command (R181). That `OpStart` of INIT is fused with it is the model's
deduction (log entry 6). -/
def Obligations.FirstMicroStepIsInit : Prop :=
  ∀ (c : Config) (s : State), c.top = .autonomous →
    s = { State.resetWith c with turns := s.turns } → s.nextTurn = .seq →
    ∃ t, step s = .next t ∧
      t.trace = [.opStart .init] ++
        (match c.tInit0 with
         | some d => [Event.delay d]
         | none => [Event.rs false]) ∧
      t.seq =
        (match c.tInit0 with
         | some _ => [.cmdi .c0 0x30, .init .i1, .main .m0]
         | none => [.cmdi .c1 0x30, .init .i1, .main .m0])

/-- From reset an autonomous build runs INIT once and is then at the start of its first DISP, with the
display configured (R141, R158, R181). Where `OpStart` and `OpDone` stand in the trace of an autonomous build is
the model's deduction (log entry 6); that the LCD agent takes steps of its own, which are counted here, its choice (log
entry 7). -/
def Obligations.BootRunsInitThenDisp : Prop :=
  ∀ (c : Config) (s : State) (r1 r2 r3 r4 : Read) (bs : List Byte) (ts : List Turn),
    c.top = .autonomous → s = { State.resetWith c with turns := s.turns, samples := s.samples } →
    s.Reads [r1, r2, r3, r4] bs → s.SeqTurns (initTurns c [r1, r2, r3, r4]) ts →
    ∃ t, steps (initSteps c [r1, r2, r3, r4]) s = .next t ∧
      t.seq = [.disp .l0, .main .m1] ∧ t.ready = false ∧ t.rxidx = 0 ∧
      t.trace = [.opStart .init] ++ initEvents c r1 r2 r3 r4 ++ [.opDone .init, .opStart .disp] ∧
      t.lcd.view = .known
        { fmt := .eightBitTwoLine5x7, entry := .incrementNoShift, on := true, cursorOn := true
          blink := true, line1 := List.replicate c.lcdCols .blank
          line2 := List.replicate c.lcdCols .blank, cur := some (.one, 0) }

/-- Round-trip echo in MAIN's loop: four bytes that arrive while the flag is clear and the index at 0 are
rendered, echoed in order and the flag is clear again at the start of the next DISP, with a live LCD and
transmitter and no further byte (R140). The hypotheses are the five premises of R195: `Reads`, `Polls`, and turns that
carry the four bytes once each, in order, as one packet, and no more. That the LCD agent takes steps of its own, which
are counted here and whose result is `t.lcd`, is the model's choice (log entry 7). -/
def Obligations.RoundTripEcho : Prop :=
  ∀ (s : State) (b0 b1 b2 b3 : Byte) (r0 : Read) (rl : List Read) (q0 q1 q2 q3 r1 : Read)
    (k0 k1 k2 k3 : Nat) (bs : List Byte) (ps : List Bool) (ts : List Turn),
    s.seq = [.disp .l0, .main .m1] → s.lcdIn = none → s.rxidx = 0 → s.ready = false → rl.length = 8 →
    s.Reads (r0 :: rl ++ [q0, q1, q2, q3, r1]) bs → s.Polls [k0, k1, k2, k3] ps →
    s.turns.given = [.rx b0, .rx b1, .rx b2, .rx b3] ++
      List.replicate
        (1 + rndrTurns (r0 :: rl ++ [q0, q1, q2, q3, r1]) + xpktTurns [k0, k1, k2, k3] + 1) .seq ++ ts →
    ∃ t, steps
        (4 + (1 + rndrSteps (r0 :: rl ++ [q0, q1, q2, q3, r1]) + xpktTurns [k0, k1, k2, k3] + 1)) s =
        .next t ∧
      t.seq = [.disp .l0, .main .m1] ∧ t.ready = false ∧ t.rxidx = 0 ∧ t.pkt = ⟨b0, b1, b2, b3⟩ ∧
      serialOutput t.trace = serialOutput s.trace ++ [b0, b1, b2, b3] ∧
      t.lcd = s.lcd.takeAll s.cfg.lcdCols (rndrTxns ⟨b0, b1, b2, b3⟩ r0 rl q0 q1 q2 q3 r1)

/-! ## Invariants -/

/-- The invariant holds at reset of every build within the bounds of R9. -/
def Obligations.InvHoldsAtReset : Prop := ∀ (c : Config), c.Wf → (State.resetWith c).Inv

/-- Every step keeps the invariant: lines that fit the label, gating, the stack's shape, the widths. Its part about the
LCD agent and the transaction waiting for it is about fields of the model's choice (log entries 7 and 8). -/
def Obligations.StepKeepsInv : Prop := ∀ (s t : State), s.Inv → step s = .next t → t.Inv

/-- At reset the trace tells the lines and the display; of the display also what the model keeps beside the view, its
choice (log entry 8). -/
def Obligations.ToldHoldsAtReset : Prop := ∀ (c : Config), (State.resetWith c).Told

/-- Every step keeps it that scanning the trace gives the lines, and that the LCD agent's view is the one
R158 computes from the transaction trace of R116. That the agent takes in a transaction in a step of its own, and what
it keeps beside the view, is the model's choice (log entries 7 and 8). -/
def Obligations.StepKeepsTold : Prop := ∀ (s t : State), s.Told → step s = .next t → t.Told

/-- `RS`, `RW`, `DIR` and `DBO` change only while `E = 0`: a step before or after which `E` is 1 leaves them
alone (R115 (a), R189). -/
def Obligations.LinesHoldDuringPulse : Prop :=
  ∀ (s t : State), s.Inv → step s = .next t → s.e = true ∨ t.e = true →
    t.rs = s.rs ∧ t.rw = s.rw ∧ t.dir = s.dir ∧ t.dbo = s.dbo

/-- During a write pulse the block drives the bus and during a read pulse it does not, with `RS = 0`; between
top-level operations the lines rest; `RS = 1, RW = 1` never occurs (R38, R188). -/
def Obligations.LineCombinations : Prop :=
  ∀ (s : State), s.Inv →
    (s.e = true → s.rw = false → s.dir = .out) ∧
    (s.e = true → s.rw = true → s.dir = .inp ∧ s.rs = false) ∧
    (s.seq = [] → s.e = false ∧ s.dir = .out ∧ s.rw = false) ∧
    ¬(s.rs = true ∧ s.rw = true)

/-- Every write pulse of a CMD or DAT reaches the LCD agent straight after a status read that was not busy,
as the bus word of its byte (R115 (c)). That the write then waits for a step of the LCD agent is the model's choice (log
entry 7). -/
def Obligations.GatedWritesFollowReadyStatus : Prop :=
  ∀ (s t : State) (v : Byte) (rest : List Frame), s.Inv → s.lcdIn = none → s.nextTurn = .seq →
    step s = .next t →
    (s.seq = .cmd .k6 v :: rest → t.lcd.gated = true ∧ t.lcdIn = some (busWord false false v)) ∧
    (s.seq = .dat .t6 v :: rest → t.lcd.gated = true ∧ t.lcdIn = some (busWord true false v))

/-! ## Failure modes -/

/-- A stuck LCD hangs ready-wait: through any number of busy samples it stays in its loop, pulsing, with the
bus still an input, no fault and no stop (R161). Four of the five steps a sample are R111's W3 to W6; the fifth, the LCD
agent's own, is the model's choice (log entry 7). -/
def Obligations.StuckLcdHangsReadyWait : Prop :=
  ∀ (s : State) (busy bs : List Byte) (rest : List Frame) (ts : List Turn),
    s.seq = .rdyw .w3 :: rest → s.lcdIn = none → s.rw = true → s.e = false →
    (∀ b ∈ busy, busyFlag b = true) → s.samples.given = busy ++ bs → s.SeqTurns (4 * busy.length) ts →
    ∃ t, steps (5 * busy.length) s = .next t ∧
      t = { s with
        stat := t.stat, lcd := t.lcd
        turns := { s.turns with given := ts }
        samples := { s.samples with given := bs }
        trace := s.trace ++ busy.flatMap (sampleEvents s.cfg.tPulse) }

/-- A transmitter that is never ready hangs the poll loop of TXB and of XPKT: any number of polls changes
nothing but the trace (R162). -/
def Obligations.NeverReadyHangsTransmit : Prop :=
  ∀ (s : State) (k : Nat) (bs : List Bool) (rest : List Frame) (b : Byte) (ts : List Turn),
    s.seq = .txb .x0 b :: rest ∨ s.seq = .xpkt .e0 :: rest → s.lcdIn = none →
    s.txhw.given = List.replicate k false ++ bs → s.SeqTurns k ts →
    steps k s = .next
      { s with
        turns := { s.turns with given := ts }
        txhw := { s.txhw with given := bs }
        trace := s.trace ++ List.replicate k (.txPoll false) }

end
end

