-- ==== Sys2Proof/Laws/State.lean ====
section
/-! SUPPORT. One lemma per field per update of the state: later proofs rewrite with these and never unfold a
record update. -/

namespace Sys2Proof.Machine

variable (s : State)

@[simp] theorem State.emit_cfg (ev : Event) : (s.emit ev).cfg = s.cfg := rfl
@[simp] theorem State.emit_pkt (ev : Event) : (s.emit ev).pkt = s.pkt := rfl
@[simp] theorem State.emit_rxidx (ev : Event) : (s.emit ev).rxidx = s.rxidx := rfl
@[simp] theorem State.emit_ready (ev : Event) : (s.emit ev).ready = s.ready := rfl
@[simp] theorem State.emit_rs (ev : Event) : (s.emit ev).rs = s.rs := rfl
@[simp] theorem State.emit_rw (ev : Event) : (s.emit ev).rw = s.rw := rfl
@[simp] theorem State.emit_e (ev : Event) : (s.emit ev).e = s.e := rfl
@[simp] theorem State.emit_dir (ev : Event) : (s.emit ev).dir = s.dir := rfl
@[simp] theorem State.emit_dbo (ev : Event) : (s.emit ev).dbo = s.dbo := rfl
@[simp] theorem State.emit_stat (ev : Event) : (s.emit ev).stat = s.stat := rfl
@[simp] theorem State.emit_n (ev : Event) : (s.emit ev).n = s.n := rfl
@[simp] theorem State.emit_i (ev : Event) : (s.emit ev).i = s.i := rfl
@[simp] theorem State.emit_v (ev : Event) : (s.emit ev).v = s.v := rfl
@[simp] theorem State.emit_seq (ev : Event) : (s.emit ev).seq = s.seq := rfl
@[simp] theorem State.emit_turns (ev : Event) : (s.emit ev).turns = s.turns := rfl
@[simp] theorem State.emit_samples (ev : Event) : (s.emit ev).samples = s.samples := rfl
@[simp] theorem State.emit_txhw (ev : Event) : (s.emit ev).txhw = s.txhw := rfl
@[simp] theorem State.emit_host (ev : Event) : (s.emit ev).host = s.host := rfl
@[simp] theorem State.emit_hostEnds (ev : Event) : (s.emit ev).hostEnds = s.hostEnds := rfl
@[simp] theorem State.emit_trace (ev : Event) : (s.emit ev).trace = s.trace ++ [ev] := rfl
@[simp] theorem State.emit_lcdIn (ev : Event) : (s.emit ev).lcdIn = s.lcdIn := rfl
@[simp] theorem State.emit_lcd (ev : Event) : (s.emit ev).lcd = s.lcd := rfl

@[simp] theorem State.driveDir_cfg (d : Dir) : (s.driveDir d).cfg = s.cfg := rfl
@[simp] theorem State.driveDir_pkt (d : Dir) : (s.driveDir d).pkt = s.pkt := rfl
@[simp] theorem State.driveDir_rxidx (d : Dir) : (s.driveDir d).rxidx = s.rxidx := rfl
@[simp] theorem State.driveDir_ready (d : Dir) : (s.driveDir d).ready = s.ready := rfl
@[simp] theorem State.driveDir_rs (d : Dir) : (s.driveDir d).rs = s.rs := rfl
@[simp] theorem State.driveDir_rw (d : Dir) : (s.driveDir d).rw = s.rw := rfl
@[simp] theorem State.driveDir_e (d : Dir) : (s.driveDir d).e = s.e := rfl
@[simp] theorem State.driveDir_dir (d : Dir) : (s.driveDir d).dir = d := rfl
@[simp] theorem State.driveDir_dbo (d : Dir) : (s.driveDir d).dbo = s.dbo := rfl
@[simp] theorem State.driveDir_stat (d : Dir) : (s.driveDir d).stat = s.stat := rfl
@[simp] theorem State.driveDir_n (d : Dir) : (s.driveDir d).n = s.n := rfl
@[simp] theorem State.driveDir_i (d : Dir) : (s.driveDir d).i = s.i := rfl
@[simp] theorem State.driveDir_v (d : Dir) : (s.driveDir d).v = s.v := rfl
@[simp] theorem State.driveDir_seq (d : Dir) : (s.driveDir d).seq = s.seq := rfl
@[simp] theorem State.driveDir_turns (d : Dir) : (s.driveDir d).turns = s.turns := rfl
@[simp] theorem State.driveDir_samples (d : Dir) : (s.driveDir d).samples = s.samples := rfl
@[simp] theorem State.driveDir_txhw (d : Dir) : (s.driveDir d).txhw = s.txhw := rfl
@[simp] theorem State.driveDir_host (d : Dir) : (s.driveDir d).host = s.host := rfl
@[simp] theorem State.driveDir_hostEnds (d : Dir) : (s.driveDir d).hostEnds = s.hostEnds := rfl
@[simp] theorem State.driveDir_trace (d : Dir) : (s.driveDir d).trace = s.trace ++ [.dir d] := rfl
@[simp] theorem State.driveDir_lcdIn (d : Dir) : (s.driveDir d).lcdIn = s.lcdIn := rfl
@[simp] theorem State.driveDir_lcd (d : Dir) : (s.driveDir d).lcd = s.lcd := rfl

@[simp] theorem State.driveRs_cfg (b : Bool) : (s.driveRs b).cfg = s.cfg := rfl
@[simp] theorem State.driveRs_pkt (b : Bool) : (s.driveRs b).pkt = s.pkt := rfl
@[simp] theorem State.driveRs_rxidx (b : Bool) : (s.driveRs b).rxidx = s.rxidx := rfl
@[simp] theorem State.driveRs_ready (b : Bool) : (s.driveRs b).ready = s.ready := rfl
@[simp] theorem State.driveRs_rs (b : Bool) : (s.driveRs b).rs = b := rfl
@[simp] theorem State.driveRs_rw (b : Bool) : (s.driveRs b).rw = s.rw := rfl
@[simp] theorem State.driveRs_e (b : Bool) : (s.driveRs b).e = s.e := rfl
@[simp] theorem State.driveRs_dir (b : Bool) : (s.driveRs b).dir = s.dir := rfl
@[simp] theorem State.driveRs_dbo (b : Bool) : (s.driveRs b).dbo = s.dbo := rfl
@[simp] theorem State.driveRs_stat (b : Bool) : (s.driveRs b).stat = s.stat := rfl
@[simp] theorem State.driveRs_n (b : Bool) : (s.driveRs b).n = s.n := rfl
@[simp] theorem State.driveRs_i (b : Bool) : (s.driveRs b).i = s.i := rfl
@[simp] theorem State.driveRs_v (b : Bool) : (s.driveRs b).v = s.v := rfl
@[simp] theorem State.driveRs_seq (b : Bool) : (s.driveRs b).seq = s.seq := rfl
@[simp] theorem State.driveRs_turns (b : Bool) : (s.driveRs b).turns = s.turns := rfl
@[simp] theorem State.driveRs_samples (b : Bool) : (s.driveRs b).samples = s.samples := rfl
@[simp] theorem State.driveRs_txhw (b : Bool) : (s.driveRs b).txhw = s.txhw := rfl
@[simp] theorem State.driveRs_host (b : Bool) : (s.driveRs b).host = s.host := rfl
@[simp] theorem State.driveRs_hostEnds (b : Bool) : (s.driveRs b).hostEnds = s.hostEnds := rfl
@[simp] theorem State.driveRs_trace (b : Bool) : (s.driveRs b).trace = s.trace ++ [.rs b] := rfl
@[simp] theorem State.driveRs_lcdIn (b : Bool) : (s.driveRs b).lcdIn = s.lcdIn := rfl
@[simp] theorem State.driveRs_lcd (b : Bool) : (s.driveRs b).lcd = s.lcd := rfl

@[simp] theorem State.driveRw_cfg (b : Bool) : (s.driveRw b).cfg = s.cfg := rfl
@[simp] theorem State.driveRw_pkt (b : Bool) : (s.driveRw b).pkt = s.pkt := rfl
@[simp] theorem State.driveRw_rxidx (b : Bool) : (s.driveRw b).rxidx = s.rxidx := rfl
@[simp] theorem State.driveRw_ready (b : Bool) : (s.driveRw b).ready = s.ready := rfl
@[simp] theorem State.driveRw_rs (b : Bool) : (s.driveRw b).rs = s.rs := rfl
@[simp] theorem State.driveRw_rw (b : Bool) : (s.driveRw b).rw = b := rfl
@[simp] theorem State.driveRw_e (b : Bool) : (s.driveRw b).e = s.e := rfl
@[simp] theorem State.driveRw_dir (b : Bool) : (s.driveRw b).dir = s.dir := rfl
@[simp] theorem State.driveRw_dbo (b : Bool) : (s.driveRw b).dbo = s.dbo := rfl
@[simp] theorem State.driveRw_stat (b : Bool) : (s.driveRw b).stat = s.stat := rfl
@[simp] theorem State.driveRw_n (b : Bool) : (s.driveRw b).n = s.n := rfl
@[simp] theorem State.driveRw_i (b : Bool) : (s.driveRw b).i = s.i := rfl
@[simp] theorem State.driveRw_v (b : Bool) : (s.driveRw b).v = s.v := rfl
@[simp] theorem State.driveRw_seq (b : Bool) : (s.driveRw b).seq = s.seq := rfl
@[simp] theorem State.driveRw_turns (b : Bool) : (s.driveRw b).turns = s.turns := rfl
@[simp] theorem State.driveRw_samples (b : Bool) : (s.driveRw b).samples = s.samples := rfl
@[simp] theorem State.driveRw_txhw (b : Bool) : (s.driveRw b).txhw = s.txhw := rfl
@[simp] theorem State.driveRw_host (b : Bool) : (s.driveRw b).host = s.host := rfl
@[simp] theorem State.driveRw_hostEnds (b : Bool) : (s.driveRw b).hostEnds = s.hostEnds := rfl
@[simp] theorem State.driveRw_trace (b : Bool) : (s.driveRw b).trace = s.trace ++ [.rw b] := rfl
@[simp] theorem State.driveRw_lcdIn (b : Bool) : (s.driveRw b).lcdIn = s.lcdIn := rfl
@[simp] theorem State.driveRw_lcd (b : Bool) : (s.driveRw b).lcd = s.lcd := rfl

@[simp] theorem State.driveBus_cfg (b : Byte) : (s.driveBus b).cfg = s.cfg := rfl
@[simp] theorem State.driveBus_pkt (b : Byte) : (s.driveBus b).pkt = s.pkt := rfl
@[simp] theorem State.driveBus_rxidx (b : Byte) : (s.driveBus b).rxidx = s.rxidx := rfl
@[simp] theorem State.driveBus_ready (b : Byte) : (s.driveBus b).ready = s.ready := rfl
@[simp] theorem State.driveBus_rs (b : Byte) : (s.driveBus b).rs = s.rs := rfl
@[simp] theorem State.driveBus_rw (b : Byte) : (s.driveBus b).rw = s.rw := rfl
@[simp] theorem State.driveBus_e (b : Byte) : (s.driveBus b).e = s.e := rfl
@[simp] theorem State.driveBus_dir (b : Byte) : (s.driveBus b).dir = s.dir := rfl
@[simp] theorem State.driveBus_dbo (b : Byte) : (s.driveBus b).dbo = b := rfl
@[simp] theorem State.driveBus_stat (b : Byte) : (s.driveBus b).stat = s.stat := rfl
@[simp] theorem State.driveBus_n (b : Byte) : (s.driveBus b).n = s.n := rfl
@[simp] theorem State.driveBus_i (b : Byte) : (s.driveBus b).i = s.i := rfl
@[simp] theorem State.driveBus_v (b : Byte) : (s.driveBus b).v = s.v := rfl
@[simp] theorem State.driveBus_seq (b : Byte) : (s.driveBus b).seq = s.seq := rfl
@[simp] theorem State.driveBus_turns (b : Byte) : (s.driveBus b).turns = s.turns := rfl
@[simp] theorem State.driveBus_samples (b : Byte) : (s.driveBus b).samples = s.samples := rfl
@[simp] theorem State.driveBus_txhw (b : Byte) : (s.driveBus b).txhw = s.txhw := rfl
@[simp] theorem State.driveBus_host (b : Byte) : (s.driveBus b).host = s.host := rfl
@[simp] theorem State.driveBus_hostEnds (b : Byte) : (s.driveBus b).hostEnds = s.hostEnds := rfl
@[simp] theorem State.driveBus_trace (b : Byte) : (s.driveBus b).trace = s.trace ++ [.bus b] := rfl
@[simp] theorem State.driveBus_lcdIn (b : Byte) : (s.driveBus b).lcdIn = s.lcdIn := rfl
@[simp] theorem State.driveBus_lcd (b : Byte) : (s.driveBus b).lcd = s.lcd := rfl

@[simp] theorem State.raiseE_cfg : s.raiseE.cfg = s.cfg := rfl
@[simp] theorem State.raiseE_pkt : s.raiseE.pkt = s.pkt := rfl
@[simp] theorem State.raiseE_rxidx : s.raiseE.rxidx = s.rxidx := rfl
@[simp] theorem State.raiseE_ready : s.raiseE.ready = s.ready := rfl
@[simp] theorem State.raiseE_rs : s.raiseE.rs = s.rs := rfl
@[simp] theorem State.raiseE_rw : s.raiseE.rw = s.rw := rfl
@[simp] theorem State.raiseE_e : s.raiseE.e = true := rfl
@[simp] theorem State.raiseE_dir : s.raiseE.dir = s.dir := rfl
@[simp] theorem State.raiseE_dbo : s.raiseE.dbo = s.dbo := rfl
@[simp] theorem State.raiseE_stat : s.raiseE.stat = s.stat := rfl
@[simp] theorem State.raiseE_n : s.raiseE.n = s.n := rfl
@[simp] theorem State.raiseE_i : s.raiseE.i = s.i := rfl
@[simp] theorem State.raiseE_v : s.raiseE.v = s.v := rfl
@[simp] theorem State.raiseE_seq : s.raiseE.seq = s.seq := rfl
@[simp] theorem State.raiseE_turns : s.raiseE.turns = s.turns := rfl
@[simp] theorem State.raiseE_samples : s.raiseE.samples = s.samples := rfl
@[simp] theorem State.raiseE_txhw : s.raiseE.txhw = s.txhw := rfl
@[simp] theorem State.raiseE_host : s.raiseE.host = s.host := rfl
@[simp] theorem State.raiseE_hostEnds : s.raiseE.hostEnds = s.hostEnds := rfl
@[simp] theorem State.raiseE_trace : s.raiseE.trace = s.trace ++ [.en true] := rfl
@[simp] theorem State.raiseE_lcdIn : s.raiseE.lcdIn = s.lcdIn := rfl
@[simp] theorem State.raiseE_lcd : s.raiseE.lcd = s.lcd := rfl

@[simp] theorem State.lowerE_cfg : s.lowerE.cfg = s.cfg := rfl
@[simp] theorem State.lowerE_pkt : s.lowerE.pkt = s.pkt := rfl
@[simp] theorem State.lowerE_rxidx : s.lowerE.rxidx = s.rxidx := rfl
@[simp] theorem State.lowerE_ready : s.lowerE.ready = s.ready := rfl
@[simp] theorem State.lowerE_rs : s.lowerE.rs = s.rs := rfl
@[simp] theorem State.lowerE_rw : s.lowerE.rw = s.rw := rfl
@[simp] theorem State.lowerE_e : s.lowerE.e = false := rfl
@[simp] theorem State.lowerE_dir : s.lowerE.dir = s.dir := rfl
@[simp] theorem State.lowerE_dbo : s.lowerE.dbo = s.dbo := rfl
@[simp] theorem State.lowerE_stat : s.lowerE.stat = s.stat := rfl
@[simp] theorem State.lowerE_n : s.lowerE.n = s.n := rfl
@[simp] theorem State.lowerE_i : s.lowerE.i = s.i := rfl
@[simp] theorem State.lowerE_v : s.lowerE.v = s.v := rfl
@[simp] theorem State.lowerE_seq : s.lowerE.seq = s.seq := rfl
@[simp] theorem State.lowerE_turns : s.lowerE.turns = s.turns := rfl
@[simp] theorem State.lowerE_samples : s.lowerE.samples = s.samples := rfl
@[simp] theorem State.lowerE_txhw : s.lowerE.txhw = s.txhw := rfl
@[simp] theorem State.lowerE_host : s.lowerE.host = s.host := rfl
@[simp] theorem State.lowerE_hostEnds : s.lowerE.hostEnds = s.hostEnds := rfl
@[simp] theorem State.lowerE_trace : s.lowerE.trace = s.trace ++ [.en false] := rfl
@[simp] theorem State.lowerE_lcdIn : s.lowerE.lcdIn = s.fallingWord := rfl
@[simp] theorem State.lowerE_lcd : s.lowerE.lcd = s.lcd := rfl

@[simp] theorem State.sample_cfg : s.sample.cfg = s.cfg := rfl
@[simp] theorem State.sample_pkt : s.sample.pkt = s.pkt := rfl
@[simp] theorem State.sample_rxidx : s.sample.rxidx = s.rxidx := rfl
@[simp] theorem State.sample_ready : s.sample.ready = s.ready := rfl
@[simp] theorem State.sample_rs : s.sample.rs = s.rs := rfl
@[simp] theorem State.sample_rw : s.sample.rw = s.rw := rfl
@[simp] theorem State.sample_e : s.sample.e = s.e := rfl
@[simp] theorem State.sample_dir : s.sample.dir = s.dir := rfl
@[simp] theorem State.sample_dbo : s.sample.dbo = s.dbo := rfl
@[simp] theorem State.sample_stat : s.sample.stat = s.nextSample := rfl
@[simp] theorem State.sample_n : s.sample.n = s.n := rfl
@[simp] theorem State.sample_i : s.sample.i = s.i := rfl
@[simp] theorem State.sample_v : s.sample.v = s.v := rfl
@[simp] theorem State.sample_seq : s.sample.seq = s.seq := rfl
@[simp] theorem State.sample_turns : s.sample.turns = s.turns := rfl
@[simp] theorem State.sample_samples : s.sample.samples = s.samples.tail := rfl
@[simp] theorem State.sample_txhw : s.sample.txhw = s.txhw := rfl
@[simp] theorem State.sample_host : s.sample.host = s.host := rfl
@[simp] theorem State.sample_hostEnds : s.sample.hostEnds = s.hostEnds := rfl
@[simp] theorem State.sample_trace : s.sample.trace = s.trace ++ [.sample s.nextSample] := rfl
@[simp] theorem State.sample_lcdIn : s.sample.lcdIn = some (busWord false true s.nextSample) := rfl
@[simp] theorem State.sample_lcd : s.sample.lcd = s.lcd := rfl

@[simp] theorem State.delay_cfg (ms : Nat) : (s.delay ms).cfg = s.cfg := rfl
@[simp] theorem State.delay_pkt (ms : Nat) : (s.delay ms).pkt = s.pkt := rfl
@[simp] theorem State.delay_rxidx (ms : Nat) : (s.delay ms).rxidx = s.rxidx := rfl
@[simp] theorem State.delay_ready (ms : Nat) : (s.delay ms).ready = s.ready := rfl
@[simp] theorem State.delay_rs (ms : Nat) : (s.delay ms).rs = s.rs := rfl
@[simp] theorem State.delay_rw (ms : Nat) : (s.delay ms).rw = s.rw := rfl
@[simp] theorem State.delay_e (ms : Nat) : (s.delay ms).e = s.e := rfl
@[simp] theorem State.delay_dir (ms : Nat) : (s.delay ms).dir = s.dir := rfl
@[simp] theorem State.delay_dbo (ms : Nat) : (s.delay ms).dbo = s.dbo := rfl
@[simp] theorem State.delay_stat (ms : Nat) : (s.delay ms).stat = s.stat := rfl
@[simp] theorem State.delay_n (ms : Nat) : (s.delay ms).n = s.n := rfl
@[simp] theorem State.delay_i (ms : Nat) : (s.delay ms).i = s.i := rfl
@[simp] theorem State.delay_v (ms : Nat) : (s.delay ms).v = s.v := rfl
@[simp] theorem State.delay_seq (ms : Nat) : (s.delay ms).seq = s.seq := rfl
@[simp] theorem State.delay_turns (ms : Nat) : (s.delay ms).turns = s.turns := rfl
@[simp] theorem State.delay_samples (ms : Nat) : (s.delay ms).samples = s.samples := rfl
@[simp] theorem State.delay_txhw (ms : Nat) : (s.delay ms).txhw = s.txhw := rfl
@[simp] theorem State.delay_host (ms : Nat) : (s.delay ms).host = s.host := rfl
@[simp] theorem State.delay_hostEnds (ms : Nat) : (s.delay ms).hostEnds = s.hostEnds := rfl
@[simp] theorem State.delay_trace (ms : Nat) : (s.delay ms).trace = s.trace ++ [.delay ms] := rfl
@[simp] theorem State.delay_lcdIn (ms : Nat) : (s.delay ms).lcdIn = s.lcdIn := rfl
@[simp] theorem State.delay_lcd (ms : Nat) : (s.delay ms).lcd = s.lcd := rfl

@[simp] theorem State.readPkt_cfg (j : BitVec 2) : (s.readPkt j).cfg = s.cfg := rfl
@[simp] theorem State.readPkt_pkt (j : BitVec 2) : (s.readPkt j).pkt = s.pkt := rfl
@[simp] theorem State.readPkt_rxidx (j : BitVec 2) : (s.readPkt j).rxidx = s.rxidx := rfl
@[simp] theorem State.readPkt_ready (j : BitVec 2) : (s.readPkt j).ready = s.ready := rfl
@[simp] theorem State.readPkt_rs (j : BitVec 2) : (s.readPkt j).rs = s.rs := rfl
@[simp] theorem State.readPkt_rw (j : BitVec 2) : (s.readPkt j).rw = s.rw := rfl
@[simp] theorem State.readPkt_e (j : BitVec 2) : (s.readPkt j).e = s.e := rfl
@[simp] theorem State.readPkt_dir (j : BitVec 2) : (s.readPkt j).dir = s.dir := rfl
@[simp] theorem State.readPkt_dbo (j : BitVec 2) : (s.readPkt j).dbo = s.dbo := rfl
@[simp] theorem State.readPkt_stat (j : BitVec 2) : (s.readPkt j).stat = s.stat := rfl
@[simp] theorem State.readPkt_n (j : BitVec 2) : (s.readPkt j).n = s.n := rfl
@[simp] theorem State.readPkt_i (j : BitVec 2) : (s.readPkt j).i = s.i := rfl
@[simp] theorem State.readPkt_v (j : BitVec 2) : (s.readPkt j).v = s.pkt.get j := rfl
@[simp] theorem State.readPkt_seq (j : BitVec 2) : (s.readPkt j).seq = s.seq := rfl
@[simp] theorem State.readPkt_turns (j : BitVec 2) : (s.readPkt j).turns = s.turns := rfl
@[simp] theorem State.readPkt_samples (j : BitVec 2) : (s.readPkt j).samples = s.samples := rfl
@[simp] theorem State.readPkt_txhw (j : BitVec 2) : (s.readPkt j).txhw = s.txhw := rfl
@[simp] theorem State.readPkt_host (j : BitVec 2) : (s.readPkt j).host = s.host := rfl
@[simp] theorem State.readPkt_hostEnds (j : BitVec 2) : (s.readPkt j).hostEnds = s.hostEnds := rfl
@[simp] theorem State.readPkt_trace (j : BitVec 2) : (s.readPkt j).trace = s.trace ++ [.pktRead j (s.pkt.get j)] := rfl
@[simp] theorem State.readPkt_lcdIn (j : BitVec 2) : (s.readPkt j).lcdIn = s.lcdIn := rfl
@[simp] theorem State.readPkt_lcd (j : BitVec 2) : (s.readPkt j).lcd = s.lcd := rfl

@[simp] theorem State.readFlag_cfg : s.readFlag.cfg = s.cfg := rfl
@[simp] theorem State.readFlag_pkt : s.readFlag.pkt = s.pkt := rfl
@[simp] theorem State.readFlag_rxidx : s.readFlag.rxidx = s.rxidx := rfl
@[simp] theorem State.readFlag_ready : s.readFlag.ready = s.ready := rfl
@[simp] theorem State.readFlag_rs : s.readFlag.rs = s.rs := rfl
@[simp] theorem State.readFlag_rw : s.readFlag.rw = s.rw := rfl
@[simp] theorem State.readFlag_e : s.readFlag.e = s.e := rfl
@[simp] theorem State.readFlag_dir : s.readFlag.dir = s.dir := rfl
@[simp] theorem State.readFlag_dbo : s.readFlag.dbo = s.dbo := rfl
@[simp] theorem State.readFlag_stat : s.readFlag.stat = s.stat := rfl
@[simp] theorem State.readFlag_n : s.readFlag.n = s.n := rfl
@[simp] theorem State.readFlag_i : s.readFlag.i = s.i := rfl
@[simp] theorem State.readFlag_v : s.readFlag.v = s.v := rfl
@[simp] theorem State.readFlag_seq : s.readFlag.seq = s.seq := rfl
@[simp] theorem State.readFlag_turns : s.readFlag.turns = s.turns := rfl
@[simp] theorem State.readFlag_samples : s.readFlag.samples = s.samples := rfl
@[simp] theorem State.readFlag_txhw : s.readFlag.txhw = s.txhw := rfl
@[simp] theorem State.readFlag_host : s.readFlag.host = s.host := rfl
@[simp] theorem State.readFlag_hostEnds : s.readFlag.hostEnds = s.hostEnds := rfl
@[simp] theorem State.readFlag_trace : s.readFlag.trace = s.trace ++ [.flagRead s.ready] := rfl
@[simp] theorem State.readFlag_lcdIn : s.readFlag.lcdIn = s.lcdIn := rfl
@[simp] theorem State.readFlag_lcd : s.readFlag.lcd = s.lcd := rfl

@[simp] theorem State.clearFlag_cfg : s.clearFlag.cfg = s.cfg := rfl
@[simp] theorem State.clearFlag_pkt : s.clearFlag.pkt = s.pkt := rfl
@[simp] theorem State.clearFlag_rxidx : s.clearFlag.rxidx = s.rxidx := rfl
@[simp] theorem State.clearFlag_ready : s.clearFlag.ready = false := rfl
@[simp] theorem State.clearFlag_rs : s.clearFlag.rs = s.rs := rfl
@[simp] theorem State.clearFlag_rw : s.clearFlag.rw = s.rw := rfl
@[simp] theorem State.clearFlag_e : s.clearFlag.e = s.e := rfl
@[simp] theorem State.clearFlag_dir : s.clearFlag.dir = s.dir := rfl
@[simp] theorem State.clearFlag_dbo : s.clearFlag.dbo = s.dbo := rfl
@[simp] theorem State.clearFlag_stat : s.clearFlag.stat = s.stat := rfl
@[simp] theorem State.clearFlag_n : s.clearFlag.n = s.n := rfl
@[simp] theorem State.clearFlag_i : s.clearFlag.i = s.i := rfl
@[simp] theorem State.clearFlag_v : s.clearFlag.v = s.v := rfl
@[simp] theorem State.clearFlag_seq : s.clearFlag.seq = s.seq := rfl
@[simp] theorem State.clearFlag_turns : s.clearFlag.turns = s.turns := rfl
@[simp] theorem State.clearFlag_samples : s.clearFlag.samples = s.samples := rfl
@[simp] theorem State.clearFlag_txhw : s.clearFlag.txhw = s.txhw := rfl
@[simp] theorem State.clearFlag_host : s.clearFlag.host = s.host := rfl
@[simp] theorem State.clearFlag_hostEnds : s.clearFlag.hostEnds = s.hostEnds := rfl
@[simp] theorem State.clearFlag_trace : s.clearFlag.trace = s.trace ++ [.flagClear] := rfl
@[simp] theorem State.clearFlag_lcdIn : s.clearFlag.lcdIn = s.lcdIn := rfl
@[simp] theorem State.clearFlag_lcd : s.clearFlag.lcd = s.lcd := rfl

@[simp] theorem State.pollTx_cfg : s.pollTx.cfg = s.cfg := rfl
@[simp] theorem State.pollTx_pkt : s.pollTx.pkt = s.pkt := rfl
@[simp] theorem State.pollTx_rxidx : s.pollTx.rxidx = s.rxidx := rfl
@[simp] theorem State.pollTx_ready : s.pollTx.ready = s.ready := rfl
@[simp] theorem State.pollTx_rs : s.pollTx.rs = s.rs := rfl
@[simp] theorem State.pollTx_rw : s.pollTx.rw = s.rw := rfl
@[simp] theorem State.pollTx_e : s.pollTx.e = s.e := rfl
@[simp] theorem State.pollTx_dir : s.pollTx.dir = s.dir := rfl
@[simp] theorem State.pollTx_dbo : s.pollTx.dbo = s.dbo := rfl
@[simp] theorem State.pollTx_stat : s.pollTx.stat = s.stat := rfl
@[simp] theorem State.pollTx_n : s.pollTx.n = s.n := rfl
@[simp] theorem State.pollTx_i : s.pollTx.i = s.i := rfl
@[simp] theorem State.pollTx_v : s.pollTx.v = s.v := rfl
@[simp] theorem State.pollTx_seq : s.pollTx.seq = s.seq := rfl
@[simp] theorem State.pollTx_turns : s.pollTx.turns = s.turns := rfl
@[simp] theorem State.pollTx_samples : s.pollTx.samples = s.samples := rfl
@[simp] theorem State.pollTx_txhw : s.pollTx.txhw = s.txhw.tail := rfl
@[simp] theorem State.pollTx_host : s.pollTx.host = s.host := rfl
@[simp] theorem State.pollTx_hostEnds : s.pollTx.hostEnds = s.hostEnds := rfl
@[simp] theorem State.pollTx_trace : s.pollTx.trace = s.trace ++ [.txPoll s.nextTxReady] := rfl
@[simp] theorem State.pollTx_lcdIn : s.pollTx.lcdIn = s.lcdIn := rfl
@[simp] theorem State.pollTx_lcd : s.pollTx.lcd = s.lcd := rfl

@[simp] theorem State.writeTx_cfg (b : Byte) : (s.writeTx b).cfg = s.cfg := rfl
@[simp] theorem State.writeTx_pkt (b : Byte) : (s.writeTx b).pkt = s.pkt := rfl
@[simp] theorem State.writeTx_rxidx (b : Byte) : (s.writeTx b).rxidx = s.rxidx := rfl
@[simp] theorem State.writeTx_ready (b : Byte) : (s.writeTx b).ready = s.ready := rfl
@[simp] theorem State.writeTx_rs (b : Byte) : (s.writeTx b).rs = s.rs := rfl
@[simp] theorem State.writeTx_rw (b : Byte) : (s.writeTx b).rw = s.rw := rfl
@[simp] theorem State.writeTx_e (b : Byte) : (s.writeTx b).e = s.e := rfl
@[simp] theorem State.writeTx_dir (b : Byte) : (s.writeTx b).dir = s.dir := rfl
@[simp] theorem State.writeTx_dbo (b : Byte) : (s.writeTx b).dbo = s.dbo := rfl
@[simp] theorem State.writeTx_stat (b : Byte) : (s.writeTx b).stat = s.stat := rfl
@[simp] theorem State.writeTx_n (b : Byte) : (s.writeTx b).n = s.n := rfl
@[simp] theorem State.writeTx_i (b : Byte) : (s.writeTx b).i = s.i := rfl
@[simp] theorem State.writeTx_v (b : Byte) : (s.writeTx b).v = s.v := rfl
@[simp] theorem State.writeTx_seq (b : Byte) : (s.writeTx b).seq = s.seq := rfl
@[simp] theorem State.writeTx_turns (b : Byte) : (s.writeTx b).turns = s.turns := rfl
@[simp] theorem State.writeTx_samples (b : Byte) : (s.writeTx b).samples = s.samples := rfl
@[simp] theorem State.writeTx_txhw (b : Byte) : (s.writeTx b).txhw = s.txhw := rfl
@[simp] theorem State.writeTx_host (b : Byte) : (s.writeTx b).host = s.host := rfl
@[simp] theorem State.writeTx_hostEnds (b : Byte) : (s.writeTx b).hostEnds = s.hostEnds := rfl
@[simp] theorem State.writeTx_trace (b : Byte) : (s.writeTx b).trace = s.trace ++ [.txWrite b] := rfl
@[simp] theorem State.writeTx_lcdIn (b : Byte) : (s.writeTx b).lcdIn = s.lcdIn := rfl
@[simp] theorem State.writeTx_lcd (b : Byte) : (s.writeTx b).lcd = s.lcd := rfl

@[simp] theorem State.setN_cfg (m : Nat) : (s.setN m).cfg = s.cfg := rfl
@[simp] theorem State.setN_pkt (m : Nat) : (s.setN m).pkt = s.pkt := rfl
@[simp] theorem State.setN_rxidx (m : Nat) : (s.setN m).rxidx = s.rxidx := rfl
@[simp] theorem State.setN_ready (m : Nat) : (s.setN m).ready = s.ready := rfl
@[simp] theorem State.setN_rs (m : Nat) : (s.setN m).rs = s.rs := rfl
@[simp] theorem State.setN_rw (m : Nat) : (s.setN m).rw = s.rw := rfl
@[simp] theorem State.setN_e (m : Nat) : (s.setN m).e = s.e := rfl
@[simp] theorem State.setN_dir (m : Nat) : (s.setN m).dir = s.dir := rfl
@[simp] theorem State.setN_dbo (m : Nat) : (s.setN m).dbo = s.dbo := rfl
@[simp] theorem State.setN_stat (m : Nat) : (s.setN m).stat = s.stat := rfl
@[simp] theorem State.setN_n (m : Nat) : (s.setN m).n = m % 2 ^ s.cfg.intw := rfl
@[simp] theorem State.setN_i (m : Nat) : (s.setN m).i = s.i := rfl
@[simp] theorem State.setN_v (m : Nat) : (s.setN m).v = s.v := rfl
@[simp] theorem State.setN_seq (m : Nat) : (s.setN m).seq = s.seq := rfl
@[simp] theorem State.setN_turns (m : Nat) : (s.setN m).turns = s.turns := rfl
@[simp] theorem State.setN_samples (m : Nat) : (s.setN m).samples = s.samples := rfl
@[simp] theorem State.setN_txhw (m : Nat) : (s.setN m).txhw = s.txhw := rfl
@[simp] theorem State.setN_host (m : Nat) : (s.setN m).host = s.host := rfl
@[simp] theorem State.setN_hostEnds (m : Nat) : (s.setN m).hostEnds = s.hostEnds := rfl
@[simp] theorem State.setN_trace (m : Nat) : (s.setN m).trace = s.trace := rfl
@[simp] theorem State.setN_lcdIn (m : Nat) : (s.setN m).lcdIn = s.lcdIn := rfl
@[simp] theorem State.setN_lcd (m : Nat) : (s.setN m).lcd = s.lcd := rfl

@[simp] theorem State.setI_cfg (j : BitVec 4) : (s.setI j).cfg = s.cfg := rfl
@[simp] theorem State.setI_pkt (j : BitVec 4) : (s.setI j).pkt = s.pkt := rfl
@[simp] theorem State.setI_rxidx (j : BitVec 4) : (s.setI j).rxidx = s.rxidx := rfl
@[simp] theorem State.setI_ready (j : BitVec 4) : (s.setI j).ready = s.ready := rfl
@[simp] theorem State.setI_rs (j : BitVec 4) : (s.setI j).rs = s.rs := rfl
@[simp] theorem State.setI_rw (j : BitVec 4) : (s.setI j).rw = s.rw := rfl
@[simp] theorem State.setI_e (j : BitVec 4) : (s.setI j).e = s.e := rfl
@[simp] theorem State.setI_dir (j : BitVec 4) : (s.setI j).dir = s.dir := rfl
@[simp] theorem State.setI_dbo (j : BitVec 4) : (s.setI j).dbo = s.dbo := rfl
@[simp] theorem State.setI_stat (j : BitVec 4) : (s.setI j).stat = s.stat := rfl
@[simp] theorem State.setI_n (j : BitVec 4) : (s.setI j).n = s.n := rfl
@[simp] theorem State.setI_i (j : BitVec 4) : (s.setI j).i = j := rfl
@[simp] theorem State.setI_v (j : BitVec 4) : (s.setI j).v = s.v := rfl
@[simp] theorem State.setI_seq (j : BitVec 4) : (s.setI j).seq = s.seq := rfl
@[simp] theorem State.setI_turns (j : BitVec 4) : (s.setI j).turns = s.turns := rfl
@[simp] theorem State.setI_samples (j : BitVec 4) : (s.setI j).samples = s.samples := rfl
@[simp] theorem State.setI_txhw (j : BitVec 4) : (s.setI j).txhw = s.txhw := rfl
@[simp] theorem State.setI_host (j : BitVec 4) : (s.setI j).host = s.host := rfl
@[simp] theorem State.setI_hostEnds (j : BitVec 4) : (s.setI j).hostEnds = s.hostEnds := rfl
@[simp] theorem State.setI_trace (j : BitVec 4) : (s.setI j).trace = s.trace := rfl
@[simp] theorem State.setI_lcdIn (j : BitVec 4) : (s.setI j).lcdIn = s.lcdIn := rfl
@[simp] theorem State.setI_lcd (j : BitVec 4) : (s.setI j).lcd = s.lcd := rfl

@[simp] theorem State.setV_cfg (b : Byte) : (s.setV b).cfg = s.cfg := rfl
@[simp] theorem State.setV_pkt (b : Byte) : (s.setV b).pkt = s.pkt := rfl
@[simp] theorem State.setV_rxidx (b : Byte) : (s.setV b).rxidx = s.rxidx := rfl
@[simp] theorem State.setV_ready (b : Byte) : (s.setV b).ready = s.ready := rfl
@[simp] theorem State.setV_rs (b : Byte) : (s.setV b).rs = s.rs := rfl
@[simp] theorem State.setV_rw (b : Byte) : (s.setV b).rw = s.rw := rfl
@[simp] theorem State.setV_e (b : Byte) : (s.setV b).e = s.e := rfl
@[simp] theorem State.setV_dir (b : Byte) : (s.setV b).dir = s.dir := rfl
@[simp] theorem State.setV_dbo (b : Byte) : (s.setV b).dbo = s.dbo := rfl
@[simp] theorem State.setV_stat (b : Byte) : (s.setV b).stat = s.stat := rfl
@[simp] theorem State.setV_n (b : Byte) : (s.setV b).n = s.n := rfl
@[simp] theorem State.setV_i (b : Byte) : (s.setV b).i = s.i := rfl
@[simp] theorem State.setV_v (b : Byte) : (s.setV b).v = b := rfl
@[simp] theorem State.setV_seq (b : Byte) : (s.setV b).seq = s.seq := rfl
@[simp] theorem State.setV_turns (b : Byte) : (s.setV b).turns = s.turns := rfl
@[simp] theorem State.setV_samples (b : Byte) : (s.setV b).samples = s.samples := rfl
@[simp] theorem State.setV_txhw (b : Byte) : (s.setV b).txhw = s.txhw := rfl
@[simp] theorem State.setV_host (b : Byte) : (s.setV b).host = s.host := rfl
@[simp] theorem State.setV_hostEnds (b : Byte) : (s.setV b).hostEnds = s.hostEnds := rfl
@[simp] theorem State.setV_trace (b : Byte) : (s.setV b).trace = s.trace := rfl
@[simp] theorem State.setV_lcdIn (b : Byte) : (s.setV b).lcdIn = s.lcdIn := rfl
@[simp] theorem State.setV_lcd (b : Byte) : (s.setV b).lcd = s.lcd := rfl

@[simp] theorem State.setSeq_cfg (fs : List Frame) : (s.setSeq fs).cfg = s.cfg := rfl
@[simp] theorem State.setSeq_pkt (fs : List Frame) : (s.setSeq fs).pkt = s.pkt := rfl
@[simp] theorem State.setSeq_rxidx (fs : List Frame) : (s.setSeq fs).rxidx = s.rxidx := rfl
@[simp] theorem State.setSeq_ready (fs : List Frame) : (s.setSeq fs).ready = s.ready := rfl
@[simp] theorem State.setSeq_rs (fs : List Frame) : (s.setSeq fs).rs = s.rs := rfl
@[simp] theorem State.setSeq_rw (fs : List Frame) : (s.setSeq fs).rw = s.rw := rfl
@[simp] theorem State.setSeq_e (fs : List Frame) : (s.setSeq fs).e = s.e := rfl
@[simp] theorem State.setSeq_dir (fs : List Frame) : (s.setSeq fs).dir = s.dir := rfl
@[simp] theorem State.setSeq_dbo (fs : List Frame) : (s.setSeq fs).dbo = s.dbo := rfl
@[simp] theorem State.setSeq_stat (fs : List Frame) : (s.setSeq fs).stat = s.stat := rfl
@[simp] theorem State.setSeq_n (fs : List Frame) : (s.setSeq fs).n = s.n := rfl
@[simp] theorem State.setSeq_i (fs : List Frame) : (s.setSeq fs).i = s.i := rfl
@[simp] theorem State.setSeq_v (fs : List Frame) : (s.setSeq fs).v = s.v := rfl
@[simp] theorem State.setSeq_seq (fs : List Frame) : (s.setSeq fs).seq = fs := rfl
@[simp] theorem State.setSeq_turns (fs : List Frame) : (s.setSeq fs).turns = s.turns := rfl
@[simp] theorem State.setSeq_samples (fs : List Frame) : (s.setSeq fs).samples = s.samples := rfl
@[simp] theorem State.setSeq_txhw (fs : List Frame) : (s.setSeq fs).txhw = s.txhw := rfl
@[simp] theorem State.setSeq_host (fs : List Frame) : (s.setSeq fs).host = s.host := rfl
@[simp] theorem State.setSeq_hostEnds (fs : List Frame) : (s.setSeq fs).hostEnds = s.hostEnds := rfl
@[simp] theorem State.setSeq_trace (fs : List Frame) : (s.setSeq fs).trace = s.trace := rfl
@[simp] theorem State.setSeq_lcdIn (fs : List Frame) : (s.setSeq fs).lcdIn = s.lcdIn := rfl
@[simp] theorem State.setSeq_lcd (fs : List Frame) : (s.setSeq fs).lcd = s.lcd := rfl

@[simp] theorem State.goto_cfg (f : Frame) (rest : List Frame) : (s.goto f rest).cfg = s.cfg := rfl
@[simp] theorem State.goto_pkt (f : Frame) (rest : List Frame) : (s.goto f rest).pkt = s.pkt := rfl
@[simp] theorem State.goto_rxidx (f : Frame) (rest : List Frame) : (s.goto f rest).rxidx = s.rxidx := rfl
@[simp] theorem State.goto_ready (f : Frame) (rest : List Frame) : (s.goto f rest).ready = s.ready := rfl
@[simp] theorem State.goto_rs (f : Frame) (rest : List Frame) : (s.goto f rest).rs = s.rs := rfl
@[simp] theorem State.goto_rw (f : Frame) (rest : List Frame) : (s.goto f rest).rw = s.rw := rfl
@[simp] theorem State.goto_e (f : Frame) (rest : List Frame) : (s.goto f rest).e = s.e := rfl
@[simp] theorem State.goto_dir (f : Frame) (rest : List Frame) : (s.goto f rest).dir = s.dir := rfl
@[simp] theorem State.goto_dbo (f : Frame) (rest : List Frame) : (s.goto f rest).dbo = s.dbo := rfl
@[simp] theorem State.goto_stat (f : Frame) (rest : List Frame) : (s.goto f rest).stat = s.stat := rfl
@[simp] theorem State.goto_n (f : Frame) (rest : List Frame) : (s.goto f rest).n = s.n := rfl
@[simp] theorem State.goto_i (f : Frame) (rest : List Frame) : (s.goto f rest).i = s.i := rfl
@[simp] theorem State.goto_v (f : Frame) (rest : List Frame) : (s.goto f rest).v = s.v := rfl
@[simp] theorem State.goto_seq (f : Frame) (rest : List Frame) : (s.goto f rest).seq = f :: rest := rfl
@[simp] theorem State.goto_turns (f : Frame) (rest : List Frame) : (s.goto f rest).turns = s.turns := rfl
@[simp] theorem State.goto_samples (f : Frame) (rest : List Frame) : (s.goto f rest).samples = s.samples := rfl
@[simp] theorem State.goto_txhw (f : Frame) (rest : List Frame) : (s.goto f rest).txhw = s.txhw := rfl
@[simp] theorem State.goto_host (f : Frame) (rest : List Frame) : (s.goto f rest).host = s.host := rfl
@[simp] theorem State.goto_hostEnds (f : Frame) (rest : List Frame) : (s.goto f rest).hostEnds = s.hostEnds := rfl
@[simp] theorem State.goto_trace (f : Frame) (rest : List Frame) : (s.goto f rest).trace = s.trace := rfl
@[simp] theorem State.goto_lcdIn (f : Frame) (rest : List Frame) : (s.goto f rest).lcdIn = s.lcdIn := rfl
@[simp] theorem State.goto_lcd (f : Frame) (rest : List Frame) : (s.goto f rest).lcd = s.lcd := rfl

@[simp] theorem State.shrinkN_cfg : s.shrinkN.cfg = s.cfg := rfl
@[simp] theorem State.shrinkN_pkt : s.shrinkN.pkt = s.pkt := rfl
@[simp] theorem State.shrinkN_rxidx : s.shrinkN.rxidx = s.rxidx := rfl
@[simp] theorem State.shrinkN_ready : s.shrinkN.ready = s.ready := rfl
@[simp] theorem State.shrinkN_rs : s.shrinkN.rs = s.rs := rfl
@[simp] theorem State.shrinkN_rw : s.shrinkN.rw = s.rw := rfl
@[simp] theorem State.shrinkN_e : s.shrinkN.e = s.e := rfl
@[simp] theorem State.shrinkN_dir : s.shrinkN.dir = s.dir := rfl
@[simp] theorem State.shrinkN_dbo : s.shrinkN.dbo = s.dbo := rfl
@[simp] theorem State.shrinkN_stat : s.shrinkN.stat = s.stat := rfl
@[simp] theorem State.shrinkN_n : s.shrinkN.n = s.n / decBase % 2 ^ s.cfg.intw := rfl
@[simp] theorem State.shrinkN_i : s.shrinkN.i = s.i := rfl
@[simp] theorem State.shrinkN_v : s.shrinkN.v = s.v := rfl
@[simp] theorem State.shrinkN_seq : s.shrinkN.seq = s.seq := rfl
@[simp] theorem State.shrinkN_turns : s.shrinkN.turns = s.turns := rfl
@[simp] theorem State.shrinkN_samples : s.shrinkN.samples = s.samples := rfl
@[simp] theorem State.shrinkN_txhw : s.shrinkN.txhw = s.txhw := rfl
@[simp] theorem State.shrinkN_host : s.shrinkN.host = s.host := rfl
@[simp] theorem State.shrinkN_hostEnds : s.shrinkN.hostEnds = s.hostEnds := rfl
@[simp] theorem State.shrinkN_trace : s.shrinkN.trace = s.trace := rfl
@[simp] theorem State.shrinkN_lcdIn : s.shrinkN.lcdIn = s.lcdIn := rfl
@[simp] theorem State.shrinkN_lcd : s.shrinkN.lcd = s.lcd := rfl

@[simp] theorem State.storeByte_cfg (b : Byte) : (s.storeByte b).cfg = s.cfg := rfl
@[simp] theorem State.storeByte_pkt (b : Byte) : (s.storeByte b).pkt = s.pkt.set s.rxidx b := rfl
@[simp] theorem State.storeByte_rxidx (b : Byte) : (s.storeByte b).rxidx = s.indexAfterByte := rfl
@[simp] theorem State.storeByte_ready (b : Byte) : (s.storeByte b).ready = s.readyAfterByte := rfl
@[simp] theorem State.storeByte_rs (b : Byte) : (s.storeByte b).rs = s.rs := rfl
@[simp] theorem State.storeByte_rw (b : Byte) : (s.storeByte b).rw = s.rw := rfl
@[simp] theorem State.storeByte_e (b : Byte) : (s.storeByte b).e = s.e := rfl
@[simp] theorem State.storeByte_dir (b : Byte) : (s.storeByte b).dir = s.dir := rfl
@[simp] theorem State.storeByte_dbo (b : Byte) : (s.storeByte b).dbo = s.dbo := rfl
@[simp] theorem State.storeByte_stat (b : Byte) : (s.storeByte b).stat = s.stat := rfl
@[simp] theorem State.storeByte_n (b : Byte) : (s.storeByte b).n = s.n := rfl
@[simp] theorem State.storeByte_i (b : Byte) : (s.storeByte b).i = s.i := rfl
@[simp] theorem State.storeByte_v (b : Byte) : (s.storeByte b).v = s.v := rfl
@[simp] theorem State.storeByte_seq (b : Byte) : (s.storeByte b).seq = s.seq := rfl
@[simp] theorem State.storeByte_turns (b : Byte) : (s.storeByte b).turns = s.turns := rfl
@[simp] theorem State.storeByte_samples (b : Byte) : (s.storeByte b).samples = s.samples := rfl
@[simp] theorem State.storeByte_txhw (b : Byte) : (s.storeByte b).txhw = s.txhw := rfl
@[simp] theorem State.storeByte_host (b : Byte) : (s.storeByte b).host = s.host := rfl
@[simp] theorem State.storeByte_hostEnds (b : Byte) : (s.storeByte b).hostEnds = s.hostEnds := rfl
@[simp] theorem State.storeByte_trace (b : Byte) : (s.storeByte b).trace = s.trace ++ [.rxByte b s.rxidx s.readyAfterByte] := rfl
@[simp] theorem State.storeByte_lcdIn (b : Byte) : (s.storeByte b).lcdIn = s.lcdIn := rfl
@[simp] theorem State.storeByte_lcd (b : Byte) : (s.storeByte b).lcd = s.lcd := rfl

@[simp] theorem State.takeTurn_cfg : s.takeTurn.cfg = s.cfg := rfl
@[simp] theorem State.takeTurn_pkt : s.takeTurn.pkt = s.pkt := rfl
@[simp] theorem State.takeTurn_rxidx : s.takeTurn.rxidx = s.rxidx := rfl
@[simp] theorem State.takeTurn_ready : s.takeTurn.ready = s.ready := rfl
@[simp] theorem State.takeTurn_rs : s.takeTurn.rs = s.rs := rfl
@[simp] theorem State.takeTurn_rw : s.takeTurn.rw = s.rw := rfl
@[simp] theorem State.takeTurn_e : s.takeTurn.e = s.e := rfl
@[simp] theorem State.takeTurn_dir : s.takeTurn.dir = s.dir := rfl
@[simp] theorem State.takeTurn_dbo : s.takeTurn.dbo = s.dbo := rfl
@[simp] theorem State.takeTurn_stat : s.takeTurn.stat = s.stat := rfl
@[simp] theorem State.takeTurn_n : s.takeTurn.n = s.n := rfl
@[simp] theorem State.takeTurn_i : s.takeTurn.i = s.i := rfl
@[simp] theorem State.takeTurn_v : s.takeTurn.v = s.v := rfl
@[simp] theorem State.takeTurn_seq : s.takeTurn.seq = s.seq := rfl
@[simp] theorem State.takeTurn_turns : s.takeTurn.turns = s.turns.tail := rfl
@[simp] theorem State.takeTurn_samples : s.takeTurn.samples = s.samples := rfl
@[simp] theorem State.takeTurn_txhw : s.takeTurn.txhw = s.txhw := rfl
@[simp] theorem State.takeTurn_host : s.takeTurn.host = s.host := rfl
@[simp] theorem State.takeTurn_hostEnds : s.takeTurn.hostEnds = s.hostEnds := rfl
@[simp] theorem State.takeTurn_trace : s.takeTurn.trace = s.trace := rfl
@[simp] theorem State.takeTurn_lcdIn : s.takeTurn.lcdIn = s.lcdIn := rfl
@[simp] theorem State.takeTurn_lcd : s.takeTurn.lcd = s.lcd := rfl

@[simp] theorem State.takeOffer_cfg : s.takeOffer.cfg = s.cfg := rfl
@[simp] theorem State.takeOffer_pkt : s.takeOffer.pkt = s.pkt := rfl
@[simp] theorem State.takeOffer_rxidx : s.takeOffer.rxidx = s.rxidx := rfl
@[simp] theorem State.takeOffer_ready : s.takeOffer.ready = s.ready := rfl
@[simp] theorem State.takeOffer_rs : s.takeOffer.rs = s.rs := rfl
@[simp] theorem State.takeOffer_rw : s.takeOffer.rw = s.rw := rfl
@[simp] theorem State.takeOffer_e : s.takeOffer.e = s.e := rfl
@[simp] theorem State.takeOffer_dir : s.takeOffer.dir = s.dir := rfl
@[simp] theorem State.takeOffer_dbo : s.takeOffer.dbo = s.dbo := rfl
@[simp] theorem State.takeOffer_stat : s.takeOffer.stat = s.stat := rfl
@[simp] theorem State.takeOffer_n : s.takeOffer.n = s.n := rfl
@[simp] theorem State.takeOffer_i : s.takeOffer.i = s.i := rfl
@[simp] theorem State.takeOffer_v : s.takeOffer.v = s.v := rfl
@[simp] theorem State.takeOffer_seq : s.takeOffer.seq = s.seq := rfl
@[simp] theorem State.takeOffer_turns : s.takeOffer.turns = s.turns := rfl
@[simp] theorem State.takeOffer_samples : s.takeOffer.samples = s.samples := rfl
@[simp] theorem State.takeOffer_txhw : s.takeOffer.txhw = s.txhw := rfl
@[simp] theorem State.takeOffer_host : s.takeOffer.host = s.host.tail := rfl
@[simp] theorem State.takeOffer_hostEnds : s.takeOffer.hostEnds = s.hostEnds := rfl
@[simp] theorem State.takeOffer_trace : s.takeOffer.trace = s.trace := rfl
@[simp] theorem State.takeOffer_lcdIn : s.takeOffer.lcdIn = s.lcdIn := rfl
@[simp] theorem State.takeOffer_lcd : s.takeOffer.lcd = s.lcd := rfl

@[simp] theorem State.lcdTake_cfg (f : Lcd → Lcd) : (s.lcdTake f).cfg = s.cfg := rfl
@[simp] theorem State.lcdTake_pkt (f : Lcd → Lcd) : (s.lcdTake f).pkt = s.pkt := rfl
@[simp] theorem State.lcdTake_rxidx (f : Lcd → Lcd) : (s.lcdTake f).rxidx = s.rxidx := rfl
@[simp] theorem State.lcdTake_ready (f : Lcd → Lcd) : (s.lcdTake f).ready = s.ready := rfl
@[simp] theorem State.lcdTake_rs (f : Lcd → Lcd) : (s.lcdTake f).rs = s.rs := rfl
@[simp] theorem State.lcdTake_rw (f : Lcd → Lcd) : (s.lcdTake f).rw = s.rw := rfl
@[simp] theorem State.lcdTake_e (f : Lcd → Lcd) : (s.lcdTake f).e = s.e := rfl
@[simp] theorem State.lcdTake_dir (f : Lcd → Lcd) : (s.lcdTake f).dir = s.dir := rfl
@[simp] theorem State.lcdTake_dbo (f : Lcd → Lcd) : (s.lcdTake f).dbo = s.dbo := rfl
@[simp] theorem State.lcdTake_stat (f : Lcd → Lcd) : (s.lcdTake f).stat = s.stat := rfl
@[simp] theorem State.lcdTake_n (f : Lcd → Lcd) : (s.lcdTake f).n = s.n := rfl
@[simp] theorem State.lcdTake_i (f : Lcd → Lcd) : (s.lcdTake f).i = s.i := rfl
@[simp] theorem State.lcdTake_v (f : Lcd → Lcd) : (s.lcdTake f).v = s.v := rfl
@[simp] theorem State.lcdTake_seq (f : Lcd → Lcd) : (s.lcdTake f).seq = s.seq := rfl
@[simp] theorem State.lcdTake_turns (f : Lcd → Lcd) : (s.lcdTake f).turns = s.turns := rfl
@[simp] theorem State.lcdTake_samples (f : Lcd → Lcd) : (s.lcdTake f).samples = s.samples := rfl
@[simp] theorem State.lcdTake_txhw (f : Lcd → Lcd) : (s.lcdTake f).txhw = s.txhw := rfl
@[simp] theorem State.lcdTake_host (f : Lcd → Lcd) : (s.lcdTake f).host = s.host := rfl
@[simp] theorem State.lcdTake_hostEnds (f : Lcd → Lcd) : (s.lcdTake f).hostEnds = s.hostEnds := rfl
@[simp] theorem State.lcdTake_trace (f : Lcd → Lcd) : (s.lcdTake f).trace = s.trace := rfl
@[simp] theorem State.lcdTake_lcdIn (f : Lcd → Lcd) : (s.lcdTake f).lcdIn = none := rfl
@[simp] theorem State.lcdTake_lcd (f : Lcd → Lcd) : (s.lcdTake f).lcd = f s.lcd := rfl

@[simp] theorem State.presentRequest_cfg (w : Nat) : (s.presentRequest w).cfg = { s.cfg with top := .hosted, intw := 32 } := rfl
@[simp] theorem State.presentRequest_pkt (w : Nat) : (s.presentRequest w).pkt = s.pkt := rfl
@[simp] theorem State.presentRequest_rxidx (w : Nat) : (s.presentRequest w).rxidx = s.rxidx := rfl
@[simp] theorem State.presentRequest_ready (w : Nat) : (s.presentRequest w).ready = s.ready := rfl
@[simp] theorem State.presentRequest_rs (w : Nat) : (s.presentRequest w).rs = s.rs := rfl
@[simp] theorem State.presentRequest_rw (w : Nat) : (s.presentRequest w).rw = s.rw := rfl
@[simp] theorem State.presentRequest_e (w : Nat) : (s.presentRequest w).e = s.e := rfl
@[simp] theorem State.presentRequest_dir (w : Nat) : (s.presentRequest w).dir = s.dir := rfl
@[simp] theorem State.presentRequest_dbo (w : Nat) : (s.presentRequest w).dbo = s.dbo := rfl
@[simp] theorem State.presentRequest_stat (w : Nat) : (s.presentRequest w).stat = s.stat := rfl
@[simp] theorem State.presentRequest_n (w : Nat) : (s.presentRequest w).n = s.n := rfl
@[simp] theorem State.presentRequest_i (w : Nat) : (s.presentRequest w).i = s.i := rfl
@[simp] theorem State.presentRequest_v (w : Nat) : (s.presentRequest w).v = s.v := rfl
@[simp] theorem State.presentRequest_seq (w : Nat) : (s.presentRequest w).seq = [] := rfl
@[simp] theorem State.presentRequest_turns (w : Nat) : (s.presentRequest w).turns = s.turns.put .seq := rfl
@[simp] theorem State.presentRequest_samples (w : Nat) : (s.presentRequest w).samples = s.samples := rfl
@[simp] theorem State.presentRequest_txhw (w : Nat) : (s.presentRequest w).txhw = s.txhw := rfl
@[simp] theorem State.presentRequest_host (w : Nat) : (s.presentRequest w).host = s.host.put (some w) := rfl
@[simp] theorem State.presentRequest_hostEnds (w : Nat) : (s.presentRequest w).hostEnds = s.hostEnds := rfl
@[simp] theorem State.presentRequest_trace (w : Nat) : (s.presentRequest w).trace = s.trace := rfl
@[simp] theorem State.presentRequest_lcdIn (w : Nat) : (s.presentRequest w).lcdIn = none := rfl
@[simp] theorem State.presentRequest_lcd (w : Nat) : (s.presentRequest w).lcd = s.lcd := rfl

@[simp] theorem State.presentBusWord_cfg (w : BusWord) : (s.presentBusWord w).cfg = s.cfg := rfl
@[simp] theorem State.presentBusWord_pkt (w : BusWord) : (s.presentBusWord w).pkt = s.pkt := rfl
@[simp] theorem State.presentBusWord_rxidx (w : BusWord) : (s.presentBusWord w).rxidx = s.rxidx := rfl
@[simp] theorem State.presentBusWord_ready (w : BusWord) : (s.presentBusWord w).ready = s.ready := rfl
@[simp] theorem State.presentBusWord_rs (w : BusWord) : (s.presentBusWord w).rs = s.rs := rfl
@[simp] theorem State.presentBusWord_rw (w : BusWord) : (s.presentBusWord w).rw = s.rw := rfl
@[simp] theorem State.presentBusWord_e (w : BusWord) : (s.presentBusWord w).e = s.e := rfl
@[simp] theorem State.presentBusWord_dir (w : BusWord) : (s.presentBusWord w).dir = s.dir := rfl
@[simp] theorem State.presentBusWord_dbo (w : BusWord) : (s.presentBusWord w).dbo = s.dbo := rfl
@[simp] theorem State.presentBusWord_stat (w : BusWord) : (s.presentBusWord w).stat = s.stat := rfl
@[simp] theorem State.presentBusWord_n (w : BusWord) : (s.presentBusWord w).n = s.n := rfl
@[simp] theorem State.presentBusWord_i (w : BusWord) : (s.presentBusWord w).i = s.i := rfl
@[simp] theorem State.presentBusWord_v (w : BusWord) : (s.presentBusWord w).v = s.v := rfl
@[simp] theorem State.presentBusWord_seq (w : BusWord) : (s.presentBusWord w).seq = s.seq := rfl
@[simp] theorem State.presentBusWord_turns (w : BusWord) : (s.presentBusWord w).turns = s.turns := rfl
@[simp] theorem State.presentBusWord_samples (w : BusWord) : (s.presentBusWord w).samples = s.samples := rfl
@[simp] theorem State.presentBusWord_txhw (w : BusWord) : (s.presentBusWord w).txhw = s.txhw := rfl
@[simp] theorem State.presentBusWord_host (w : BusWord) : (s.presentBusWord w).host = s.host := rfl
@[simp] theorem State.presentBusWord_hostEnds (w : BusWord) : (s.presentBusWord w).hostEnds = s.hostEnds := rfl
@[simp] theorem State.presentBusWord_trace (w : BusWord) : (s.presentBusWord w).trace = s.trace := rfl
@[simp] theorem State.presentBusWord_lcdIn (w : BusWord) : (s.presentBusWord w).lcdIn = some w := rfl
@[simp] theorem State.presentBusWord_lcd (w : BusWord) : (s.presentBusWord w).lcd = s.lcd := rfl

@[simp] theorem State.presentByte_cfg (b : Byte) : (s.presentByte b).cfg = s.cfg := rfl
@[simp] theorem State.presentByte_pkt (b : Byte) : (s.presentByte b).pkt = s.pkt := rfl
@[simp] theorem State.presentByte_rxidx (b : Byte) : (s.presentByte b).rxidx = s.rxidx := rfl
@[simp] theorem State.presentByte_ready (b : Byte) : (s.presentByte b).ready = s.ready := rfl
@[simp] theorem State.presentByte_rs (b : Byte) : (s.presentByte b).rs = s.rs := rfl
@[simp] theorem State.presentByte_rw (b : Byte) : (s.presentByte b).rw = s.rw := rfl
@[simp] theorem State.presentByte_e (b : Byte) : (s.presentByte b).e = s.e := rfl
@[simp] theorem State.presentByte_dir (b : Byte) : (s.presentByte b).dir = s.dir := rfl
@[simp] theorem State.presentByte_dbo (b : Byte) : (s.presentByte b).dbo = s.dbo := rfl
@[simp] theorem State.presentByte_stat (b : Byte) : (s.presentByte b).stat = s.stat := rfl
@[simp] theorem State.presentByte_n (b : Byte) : (s.presentByte b).n = s.n := rfl
@[simp] theorem State.presentByte_i (b : Byte) : (s.presentByte b).i = s.i := rfl
@[simp] theorem State.presentByte_v (b : Byte) : (s.presentByte b).v = s.v := rfl
@[simp] theorem State.presentByte_seq (b : Byte) : (s.presentByte b).seq = s.seq := rfl
@[simp] theorem State.presentByte_turns (b : Byte) : (s.presentByte b).turns = s.turns.put (.rx b) := rfl
@[simp] theorem State.presentByte_samples (b : Byte) : (s.presentByte b).samples = s.samples := rfl
@[simp] theorem State.presentByte_txhw (b : Byte) : (s.presentByte b).txhw = s.txhw := rfl
@[simp] theorem State.presentByte_host (b : Byte) : (s.presentByte b).host = s.host := rfl
@[simp] theorem State.presentByte_hostEnds (b : Byte) : (s.presentByte b).hostEnds = s.hostEnds := rfl
@[simp] theorem State.presentByte_trace (b : Byte) : (s.presentByte b).trace = s.trace := rfl
@[simp] theorem State.presentByte_lcdIn (b : Byte) : (s.presentByte b).lcdIn = none := rfl
@[simp] theorem State.presentByte_lcd (b : Byte) : (s.presentByte b).lcd = s.lcd := rfl

end Sys2Proof.Machine
end

