-- ==== Sys2Proof/Laws/Ops.lean ====
section
/-! SUPPORT. What each shared operation can do, said once: packet, tapes, the falling edge, and what the
updates leave of the answers that come next. -/

namespace Sys2Proof.Machine

/-! ## The packet (R21, R51) -/

theorem Packet.get_set (p : Packet) (i j : BitVec 2) (b : Byte) :
    (p.set i b).get j = if j = i then b else p.get j := by
  have h : ∀ k : BitVec 2, k = 0 ∨ k = 1 ∨ k = 2 ∨ k = 3 := by decide
  rcases h i with rfl | rfl | rfl | rfl <;> rcases h j with rfl | rfl | rfl | rfl <;> rfl

@[simp] theorem Packet.get_set_same (p : Packet) (i : BitVec 2) (b : Byte) : (p.set i b).get i = b := by
  simp [Packet.get_set]

theorem Packet.get_set_other (p : Packet) {i j : BitVec 2} (b : Byte) (h : j ≠ i) :
    (p.set i b).get j = p.get j := by simp [Packet.get_set, h]

@[simp] theorem Packet.get_zero (p : Packet) : p.get 0 = p.p0 := rfl
@[simp] theorem Packet.get_one (p : Packet) : p.get 1 = p.p1 := rfl
@[simp] theorem Packet.get_two (p : Packet) : p.get 2 = p.p2 := rfl
@[simp] theorem Packet.get_three (p : Packet) : p.get 3 = p.p3 := rfl

/-! ## Tapes (R35) -/

section
variable {α : Type} (free : Nat → α) (t : Tape α) (a : α) (as : List α)

theorem Tape.head_of_given (h : t.given = a :: as) : t.head free = a := by simp [Tape.head, h]

theorem Tape.tail_of_given (h : t.given = a :: as) : t.tail = { t with given := as } := by
  simp [Tape.tail, h]

theorem Tape.head_of_nil (h : t.given = []) : t.head free = free t.drawn := by simp [Tape.head, h]

theorem Tape.tail_of_nil (h : t.given = []) : t.tail = { t with drawn := t.drawn + 1 } := by
  simp [Tape.tail, h]

@[simp] theorem Tape.head_put : (t.put a).head free = a := rfl
@[simp] theorem Tape.tail_put : (t.put a).tail = t := rfl

end

/-! ## The falling edge of E (R116) -/

theorem State.fallingWord_write (s : State) (he : s.e = true) (hw : s.rw = false) :
    s.fallingWord = some (busWord s.rs false s.dbo) := by simp [State.fallingWord, he, hw]

theorem State.fallingWord_read (s : State) (hw : s.rw = true) : s.fallingWord = s.lcdIn := by
  simp [State.fallingWord, hw]

theorem State.fallingWord_low (s : State) (he : s.e = false) : s.fallingWord = s.lcdIn := by
  simp [State.fallingWord, he]

/-! ## The receive step (R22, R130) -/

theorem State.indexAfterByte_eq (s : State) :
    s.indexAfterByte.toNat = (s.rxidx.toNat + 1) % 4 := by
  have h : ∀ k : BitVec 2, (if k = 3 then 0 else k + 1 : BitVec 2).toNat = (k.toNat + 1) % 4 := by decide
  exact h s.rxidx

theorem State.readyAfterByte_of_ready (s : State) (h : s.ready = true) : s.readyAfterByte = true := by
  simp [State.readyAfterByte, h]

theorem State.readyAfterByte_of_last (s : State) (h : s.rxidx = 3) : s.readyAfterByte = true := by
  simp [State.readyAfterByte, h]

theorem State.readyAfterByte_of_not_last (s : State) (h : s.rxidx ≠ 3) : s.readyAfterByte = s.ready := by
  have h' : (s.rxidx == 3) = false := beq_eq_false_iff_ne.mpr h
  simp only [State.readyAfterByte, h', Bool.false_or]

/-- What the receive step writes, and that it writes nothing else. -/
theorem State.storeByte_frame (s : State) (b : Byte) :
    s.storeByte b =
      { s with
        pkt := s.pkt.set s.rxidx b, rxidx := s.indexAfterByte, ready := s.readyAfterByte
        trace := s.trace ++ [.rxByte b s.rxidx s.readyAfterByte] } := rfl

/-! ## The digit (R88, R122) -/

/-- The value WINT keeps only shrinks, so its width never cuts it (R122). -/
theorem shrinkN_exact (s : State) (h : s.n < 2 ^ s.cfg.intw) : s.shrinkN.n = s.n / decBase := by
  have : s.n / decBase < 2 ^ s.cfg.intw := lt_of_le_of_lt (Nat.div_le_self _ _) h
  simp [Nat.mod_eq_of_lt this]

theorem setN_exact (s : State) (n : Nat) (h : n < 2 ^ s.cfg.intw) : (s.setN n).n = n := by
  simp [Nat.mod_eq_of_lt h]

end Sys2Proof.Machine
end

