-- ==== Sys2Proof/Laws/PerInstr.lean ====
section
/-! SUPPORT. Per-instruction families. `WiderField`: an instruction whose operand fits the `arg` field of a
request word fits every wider one (R81). -/

namespace Sys2Proof.Laws

theorem lt_wider {x a b : Nat} (h : a ≤ b) (hx : x < 2 ^ a) : x < 2 ^ b :=
  lt_of_lt_of_le hx (Nat.pow_le_pow_right (by decide) h)

/-- What `WiderField` says of one instruction. -/
def WiderField.Statement (i : Instr) : Prop :=
  ∀ a b : Nat, a ≤ b → i.wf a = true → i.wf b = true

theorem WiderField.cmdi (c : Byte) : WiderField.Statement (.cmdi c) := by
  intro a b h hw; simp only [Instr.wf, decide_eq_true_eq] at *; exact lt_wider h hw
theorem WiderField.cmd (c : Byte) : WiderField.Statement (.cmd c) := by
  intro a b h hw; simp only [Instr.wf, decide_eq_true_eq] at *; exact lt_wider h hw
theorem WiderField.dat (d : Byte) : WiderField.Statement (.dat d) := by
  intro a b h hw; simp only [Instr.wf, decide_eq_true_eq] at *; exact lt_wider h hw
theorem WiderField.txb (b : Byte) : WiderField.Statement (.txb b) := by
  intro a b h hw; simp only [Instr.wf, decide_eq_true_eq] at *; exact lt_wider h hw
theorem WiderField.wint (n : Nat) : WiderField.Statement (.wint n) := by
  intro a b h hw; simp only [Instr.wf, decide_eq_true_eq] at *; exact lt_wider h hw
theorem WiderField.rdyw : WiderField.Statement .rdyw := fun _ _ _ _ => rfl
theorem WiderField.init : WiderField.Statement .init := fun _ _ _ _ => rfl
theorem WiderField.rndr : WiderField.Statement .rndr := fun _ _ _ _ => rfl
theorem WiderField.xpkt : WiderField.Statement .xpkt := fun _ _ _ _ => rfl
theorem WiderField.clrf : WiderField.Statement .clrf := fun _ _ _ _ => rfl
theorem WiderField.disp : WiderField.Statement .disp := fun _ _ _ _ => rfl
theorem WiderField.reservedB : WiderField.Statement .reservedB := fun _ _ _ _ => rfl
theorem WiderField.reservedC : WiderField.Statement .reservedC := fun _ _ _ _ => rfl
theorem WiderField.reservedD : WiderField.Statement .reservedD := fun _ _ _ _ => rfl
theorem WiderField.reservedE : WiderField.Statement .reservedE := fun _ _ _ _ => rfl
theorem WiderField.reservedF : WiderField.Statement .reservedF := fun _ _ _ _ => rfl
theorem WiderField.lcdWrcmd (c : Byte) : WiderField.Statement (.lcdWrcmd c) := fun _ _ _ _ => rfl
theorem WiderField.lcdWrdata (d : Byte) : WiderField.Statement (.lcdWrdata d) := fun _ _ _ _ => rfl
theorem WiderField.lcdRdstat (s : Byte) : WiderField.Statement (.lcdRdstat s) := fun _ _ _ _ => rfl
theorem WiderField.fset8 : WiderField.Statement .fset8 := fun _ _ _ _ => rfl
theorem WiderField.fset8TwoLine : WiderField.Statement .fset8TwoLine := fun _ _ _ _ => rfl
theorem WiderField.entryInc : WiderField.Statement .entryInc := fun _ _ _ _ => rfl
theorem WiderField.clear : WiderField.Statement .clear := fun _ _ _ _ => rfl
theorem WiderField.dispOnCb : WiderField.Statement .dispOnCb := fun _ _ _ _ => rfl
theorem WiderField.ddramL2 : WiderField.Statement .ddramL2 := fun _ _ _ _ => rfl
theorem WiderField.rxb (b : Byte) : WiderField.Statement (.rxb b) := fun _ _ _ _ => rfl

end Sys2Proof.Laws
end

