-- ==== Sys2Proof/Laws/Sequencer.lean ====
section
/-! SUPPORT. What the sequencer's internal computation can write (R31, R32): `V`, `I`, `N`, the stack and, for
the bookkeeping of top-level operations, the trace. -/

namespace Sys2Proof.Machine

/-- `t` is `s` but for what internal computation writes. -/
def State.InternalOf (t s : State) : Prop :=
  t = { s with n := t.n, i := t.i, v := t.v, seq := t.seq, trace := t.trace } ∧ s.trace <+: t.trace

theorem State.InternalOf.refl (s : State) : s.InternalOf s := ⟨rfl, List.prefix_refl _⟩

theorem State.InternalOf.trans {s t u : State} (h₁ : u.InternalOf t) (h₂ : t.InternalOf s) :
    u.InternalOf s := by
  obtain ⟨e₁, p₁⟩ := h₁
  obtain ⟨e₂, p₂⟩ := h₂
  refine ⟨?_, p₂.trans p₁⟩
  rw [e₁, e₂]

section
variable (s : State) (rest : List Frame)

theorem State.setSeq_internal (fs : List Frame) : (s.setSeq fs).InternalOf s := ⟨rfl, List.prefix_refl _⟩
theorem State.goto_internal (f : Frame) : (s.goto f rest).InternalOf s := ⟨rfl, List.prefix_refl _⟩
theorem State.setV_internal (b : Byte) : (s.setV b).InternalOf s := ⟨rfl, List.prefix_refl _⟩
theorem State.setI_internal (j : BitVec 4) : (s.setI j).InternalOf s := ⟨rfl, List.prefix_refl _⟩
theorem State.setN_internal (m : Nat) : (s.setN m).InternalOf s := ⟨rfl, List.prefix_refl _⟩
theorem State.emit_internal (ev : Event) : (s.emit ev).InternalOf s := ⟨rfl, List.prefix_append _ _⟩

theorem callRdyw_internal : (callRdyw rest s).InternalOf s := s.goto_internal rest _
theorem callCmdi_internal (c : Byte) : (callCmdi c rest s).InternalOf s := ⟨rfl, List.prefix_refl _⟩
theorem callCmd_internal (c : Byte) : (callCmd c rest s).InternalOf s := ⟨rfl, List.prefix_refl _⟩
theorem callDat_internal (d : Byte) : (callDat d rest s).InternalOf s := ⟨rfl, List.prefix_refl _⟩
theorem callRndr_internal : (callRndr rest s).InternalOf s := ⟨rfl, List.prefix_refl _⟩
theorem callTxb_internal (b : Byte) : (callTxb b rest s).InternalOf s := ⟨rfl, List.prefix_refl _⟩
theorem callXpkt_internal : (callXpkt rest s).InternalOf s := ⟨rfl, List.prefix_refl _⟩
theorem callClrf_internal : (callClrf rest s).InternalOf s := ⟨rfl, List.prefix_refl _⟩
theorem callDisp_internal : (callDisp rest s).InternalOf s := ⟨rfl, List.prefix_refl _⟩
theorem initFirst_internal : (initFirst rest s).InternalOf s := ⟨rfl, List.prefix_refl _⟩
theorem initGated_internal : (initGated rest s).InternalOf s := ⟨rfl, List.prefix_refl _⟩

theorem callInit_internal : (callInit rest s).InternalOf s := by
  unfold callInit
  split
  · exact s.goto_internal rest _
  · exact initFirst_internal s rest

theorem mainNext_internal : (mainNext rest s).InternalOf s :=
  (callDisp_internal _ _).trans (s.emit_internal _)

theorem mainStart_internal : (mainStart rest s).InternalOf s :=
  (callInit_internal _ _).trans (s.emit_internal _)

variable {s rest} {t : State}

theorem initAfter_internal {l : InitLbl} (h : initAfter l rest s = some t) : t.InternalOf s := by
  cases l <;> simp only [initAfter, Option.some.injEq, reduceCtorEq] at h
  case i5 =>
    split at h <;> simp only [Option.some.injEq] at h <;> subst h
    · exact s.goto_internal rest _
    · exact initGated_internal s rest
  all_goals subst h; exact ⟨rfl, List.prefix_refl _⟩

theorem wintTest_internal (h : wintTest rest s = some t) : t.InternalOf s := by
  unfold wintTest at h
  split at h
  · cases h
  · cases h; exact ⟨rfl, List.prefix_refl _⟩

theorem rndrAfter_internal {l : RndrLbl} (h : rndrAfter l rest s = some t) : t.InternalOf s := by
  cases l <;> simp only [rndrAfter, Option.some.injEq, reduceCtorEq] at h
  case d1 => split at h <;> cases h <;> exact ⟨rfl, List.prefix_refl _⟩
  case d2b => split at h <;> cases h <;> exact ⟨rfl, List.prefix_refl _⟩
  all_goals subst h; exact ⟨rfl, List.prefix_refl _⟩

theorem dispAfter_internal {l : DispLbl} (h : dispAfter l rest s = some t) : t.InternalOf s := by
  cases l <;> simp only [dispAfter, Option.some.injEq, reduceCtorEq] at h
  all_goals subst h; exact ⟨rfl, List.prefix_refl _⟩

end

/-- A return writes nothing but what internal computation writes, whatever the stack. -/
theorem returnTo_internal (rest : List Frame) :
    ∀ (done : OpName) (s : State), (returnTo done rest s).InternalOf s := by
  induction rest with
  | nil => intro done s; exact ⟨rfl, List.prefix_append _ _⟩
  | cons f rest ih =>
    intro done s
    cases f with
    | main l => exact (mainNext_internal _ _).trans (s.emit_internal _)
    | cmd l v => cases l <;> exact s.goto_internal rest _
    | dat l v => cases l <;> exact s.goto_internal rest _
    | init l =>
      cases h : initAfter l rest s with
      | none => simpa [returnTo, h] using ih .init s
      | some t => simpa [returnTo, h] using initAfter_internal h
    | wint l =>
      have hs : s.shrinkN.InternalOf s := s.setN_internal _
      cases h : wintTest rest s.shrinkN with
      | none => simpa [returnTo, h] using (ih .wint s.shrinkN).trans hs
      | some t => simpa [returnTo, h] using (wintTest_internal h).trans hs
    | rndr l =>
      cases h : rndrAfter l rest s with
      | none => simpa [returnTo, h] using ih .rndr s
      | some t => simpa [returnTo, h] using rndrAfter_internal h
    | disp l =>
      cases h : dispAfter l rest s with
      | none => simpa [returnTo, h] using ih .disp s
      | some t => simpa [returnTo, h] using dispAfter_internal h
    | rdyw l => exact s.goto_internal rest _
    | cmdi l v => exact s.goto_internal rest _
    | txb l v => exact s.goto_internal rest _
    | xpkt l => exact s.goto_internal rest _
    | clrf => exact s.goto_internal rest _

theorem callWint_internal (n : Nat) (rest : List Frame) (s : State) : (callWint n rest s).InternalOf s := by
  have hs : (s.setN n).InternalOf s := s.setN_internal _
  unfold callWint
  cases h : wintTest rest (s.setN n) with
  | none => simpa using (returnTo_internal rest .wint _).trans hs
  | some t => simpa using (wintTest_internal h).trans hs

theorem State.wake_internal (s : State) : s.wake.InternalOf s := by
  unfold State.wake
  split
  · exact mainStart_internal _ _
  · exact mainNext_internal _ _
  · exact .refl s

/-- Only MAIN's frame is woken. -/
theorem State.wake_of_frameInstr (s : State) {f : Frame} {rest : List Frame} {i : Instr}
    (hs : s.seq = f :: rest) (hi : frameInstr s.n f = some i) : s.wake = s := by
  cases f <;> simp_all [State.wake, frameInstr]

theorem State.wake_of_nil (s : State) (hs : s.seq = []) : s.wake = s := by simp [State.wake, hs]

end Sys2Proof.Machine
end

