-- ==== Sys2Proof/Laws/Step.lean ====
section
/-! SUPPORT. What a step can do, said once. -/

namespace Sys2Proof.Machine

theorem decodeRxev_byte (b : Byte) : decodeRxev b.toNat = .ok (.rxb b) := by
  simp [decodeRxev, b.isLt]

/-- If a step answers a next state, then the LCD agent took in a transaction, or the receive agent stepped,
or the sequencer ran its top frame or a request, or the block stayed as it was but for the turn. -/
theorem step_cases {s t : State} (h : step s = .next t) :
    (∃ w i, s.lcdIn = some w ∧ decodeLcdbus w.toNat = .ok i ∧ exec i s = .next t) ∨
    (s.lcdIn = none ∧ ∃ b, s.nextTurn = .rx b ∧ exec (.rxb b) s.takeTurn = .next t) ∨
    (s.lcdIn = none ∧ s.nextTurn = .seq ∧
      ((∃ f rest i, s.takeTurn.wake.seq = f :: rest ∧ frameInstr s.takeTurn.wake.n f = some i ∧
          exec i s.takeTurn.wake = .next t) ∨
       (∃ f rest, s.takeTurn.wake.seq = f :: rest ∧ frameInstr s.takeTurn.wake.n f = none ∧
          t = s.takeTurn.wake) ∨
       (s.takeTurn.wake.seq = [] ∧ s.takeTurn.wake.cfg.top = .hosted ∧ ∃ w i,
          s.takeTurn.wake.nextOffer = some w ∧
          decodeOpreq s.takeTurn.wake.cfg.intw (w % 2 ^ (4 + s.takeTurn.wake.cfg.intw)) = .ok i ∧
          exec i s.takeTurn.wake.takeOffer = .next t) ∨
       (s.takeTurn.wake.seq = [] ∧ s.takeTurn.wake.cfg.top = .hosted ∧
          s.takeTurn.wake.nextOffer = none ∧ t = s.takeTurn.wake.takeOffer) ∨
       (s.takeTurn.wake.seq = [] ∧ s.takeTurn.wake.cfg.top = .autonomous ∧ t = s.takeTurn.wake))) := by
  unfold step fetch at h
  cases hl : s.lcdIn with
  | some w =>
    left
    simp only [hl, fetchWord, decode] at h
    cases hd : decodeLcdbus w.toNat with
    | ok i => exact ⟨w, i, rfl, hd, by simpa [hd] using h⟩
    | error e => simp [hd] at h
  | none =>
    right
    simp only [hl] at h
    cases ht : s.nextTurn with
    | rx b =>
      left
      simp only [ht, fetchWord, decode, decodeRxev_byte] at h
      exact ⟨rfl, b, rfl, h⟩
    | seq =>
      right
      refine ⟨rfl, rfl, ?_⟩
      simp only [ht, fetchSeq] at h
      cases hs : s.takeTurn.wake.seq with
      | cons f rest =>
        simp only [hs] at h
        cases hi : frameInstr s.takeTurn.wake.n f with
        | some i => exact .inl ⟨f, rest, i, rfl, hi, by simpa [hi] using h⟩
        | none => exact .inr (.inl ⟨f, rest, rfl, hi, by simpa [hi, eq_comm] using h⟩)
      | nil =>
        simp only [hs, fetchRequest] at h
        cases hc : s.takeTurn.wake.cfg.top with
        | autonomous => exact .inr (.inr (.inr (.inr ⟨rfl, rfl, by simpa [hc, eq_comm] using h⟩)))
        | hosted =>
          simp only [hc] at h
          cases ho : s.takeTurn.wake.nextOffer with
          | none => exact .inr (.inr (.inr (.inl ⟨rfl, rfl, rfl, by simpa [ho, eq_comm] using h⟩)))
          | some w =>
            refine .inr (.inr (.inl ⟨rfl, rfl, w, ?_⟩))
            simp only [ho, fetchWord, portRequest, decode, State.takeOffer_cfg] at h
            cases hd : decodeOpreq s.takeTurn.wake.cfg.intw (w % 2 ^ (4 + s.takeTurn.wake.cfg.intw)) with
            | ok i => exact ⟨i, rfl, rfl, by simpa [hd] using h⟩
            | error e => simp [hd] at h

/-! ## What the LCD agent's rows write -/

/-- Taking in a transaction writes the LCD agent and its bus word alone. -/
theorem State.lcdTake_frame (s : State) (f : Lcd → Lcd) :
    s.lcdTake f = { s with lcdIn := none, lcd := f s.lcd } := rfl

/-- A command write records itself whatever its effect on the view. -/
theorem Lcd.takeCommand_known (cols : Nat) (c : Byte) (f : Screen → Option Screen) (l : Lcd) {k : Screen}
    (h : l.view = .known k) :
    (l.takeCommand cols c f).view = if l.admitsCommand c then (View.known k).update f else .unknown := by
  simp only [Lcd.takeCommand, h]

theorem Lcd.takeCommand_unknown (cols : Nat) (c : Byte) (f : Screen → Option Screen) (l : Lcd)
    (h : l.view = .unknown) :
    (l.takeCommand cols c f).view = if l.admitsCommand c then l.revived cols c else .unknown := by
  simp only [Lcd.takeCommand, h]

/-- A write not taken at its word leaves an unknown view, whatever it was (R159). -/
theorem Lcd.takeCommand_not_admitted (cols : Nat) (c : Byte) (f : Screen → Option Screen) (l : Lcd)
    (h : l.admitsCommand c = false) : (l.takeCommand cols c f).view = .unknown := by
  simp [Lcd.takeCommand, h]

@[simp] theorem Lcd.takeCommand_gated (cols : Nat) (c : Byte) (f : Screen → Option Screen) (l : Lcd) :
    (l.takeCommand cols c f).gated = false := rfl
@[simp] theorem Lcd.takeCommand_polled (cols : Nat) (c : Byte) (f : Screen → Option Screen) (l : Lcd) :
    (l.takeCommand cols c f).polled = false := rfl
@[simp] theorem Lcd.takeCommand_fsets (cols : Nat) (c : Byte) (f : Screen → Option Screen) (l : Lcd) :
    (l.takeCommand cols c f).fsets = if c = lcdFset8 then l.fsets + 1 else l.fsets := rfl
@[simp] theorem Lcd.takeCommand_initAt (cols : Nat) (c : Byte) (f : Screen → Option Screen) (l : Lcd) :
    (l.takeCommand cols c f).initAt = l.initAdvance c := rfl
@[simp] theorem Lcd.takeCommand_initDone (cols : Nat) (c : Byte) (f : Screen → Option Screen) (l : Lcd) :
    (l.takeCommand cols c f).initDone = (l.initDone || l.completesInit c) := rfl

/-- Only `0x0F` ends an INIT, and only straight after a status read that was not busy (R120). -/
theorem Lcd.completesInit_iff (c : Byte) (l : Lcd) :
    l.completesInit c = true ↔ c = lcdDispOnCb ∧ l.initAt = 6 ∧ l.gated = true := by
  have hw : initWrites[6]? = some lcdDispOnCb := rfl
  simp only [Lcd.completesInit, Lcd.initAdvance, beq_iff_eq]
  constructor
  · intro h
    split at h
    · split at h
      · omega
      · split at h <;> omega
    · split at h
      next hc =>
        have h6 : l.initAt = 6 := by omega
        rw [h6, hw, Option.some.injEq] at hc
        exact ⟨hc.2.2.symm, h6, hc.2.1⟩
      next => omega
  · rintro ⟨rfl, h6, hg⟩
    have hn : lcdDispOnCb ≠ lcdFset8 := by decide
    simp [hn, h6, hg, hw]

/-- Straight after a status read that was not busy, `c` is INIT's next write exactly where the transactions end with a
beginning of INIT that `c` goes on with (R120). -/
theorem Lcd.initAdvance_next_iff (c : Byte) (l : Lcd) (hg : l.gated = true) (h3 : 3 ≤ l.initAt) :
    l.initAdvance c = l.initAt + 1 ↔ c ≠ lcdFset8 ∧ initWrites[l.initAt]? = some c := by
  simp only [Lcd.initAdvance, hg, h3, true_and]
  split
  · next hc => simp only [hc, ne_eq, not_true_eq_false, false_and, iff_false]; split <;> [omega; split <;> omega]
  · next hc => split <;> simp_all

/-- When a gated command write is taken at its word (R159, U10). -/
theorem Lcd.admitsCommand_gated_iff (c : Byte) (l : Lcd) (hg : l.gated = true) :
    l.admitsCommand c = true ↔
      l.initDone = true ∨ (3 ≤ l.initAt ∧ c ≠ lcdFset8 ∧ initWrites[l.initAt]? = some c) := by
  simp only [Lcd.admitsCommand, Lcd.pastInit, hg, if_true, Bool.or_eq_true, Bool.and_eq_true, decide_eq_true_eq,
    beq_iff_eq]
  exact or_congr_right (and_congr_right fun h3 => Lcd.initAdvance_next_iff c l hg h3)

/-- When an ungated command write is taken at its word: a function set of power-on (R159, R182). -/
theorem Lcd.admitsCommand_ungated_iff (c : Byte) (l : Lcd) (hg : l.gated = false) :
    l.admitsCommand c = true ↔ c = lcdFset8 ∧ l.powerOn = true ∧ l.fsets < 3 := by
  simp [Lcd.admitsCommand, hg, and_assoc]

theorem Lcd.takeData_view (cols : Nat) (d : Byte) (l : Lcd) :
    (l.takeData cols d).view = if l.admitsData then l.view.update (Screen.put cols d) else .unknown := rfl

@[simp] theorem Lcd.takeStatus_gated (b : Byte) (l : Lcd) : (l.takeStatus b).gated = !busyFlag b := rfl
@[simp] theorem Lcd.takeStatus_polled (b : Byte) (l : Lcd) : (l.takeStatus b).polled = true := rfl
@[simp] theorem Lcd.takeStatus_fsets (b : Byte) (l : Lcd) : (l.takeStatus b).fsets = l.fsets := rfl
@[simp] theorem Lcd.takeStatus_initAt (b : Byte) (l : Lcd) : (l.takeStatus b).initAt = l.initAfterStatus := rfl
@[simp] theorem Lcd.takeStatus_initDone (b : Byte) (l : Lcd) : (l.takeStatus b).initDone = l.initDone := rfl
@[simp] theorem Lcd.takeStatus_view (b : Byte) (l : Lcd) : (l.takeStatus b).view = l.view := rfl

@[simp] theorem View.update_unknown (f : Screen → Option Screen) : View.unknown.update f = .unknown := rfl

end Sys2Proof.Machine
end

