-- ==== Sys2Proof/Laws/Runs.lean ====
section
/-! SUPPORT. Where a hosted run ends (R184), and what a receive step adds to the bytes received (R195). -/

namespace Sys2Proof.Machine

/-! ## The end of a hosted run -/

/-- What the host presents depends on the host alone. -/
theorem State.offerAt_congr (k : Nat) :
    ∀ {s t : State}, t.host = s.host → t.hostEnds = s.hostEnds → t.offerAt k = s.offerAt k := by
  induction k with
  | zero => intro s t h he; simp only [State.offerAt, State.nextOffer, h, he]
  | succ k ih => intro s t h he; exact ih (by simp only [State.takeOffer_host, h]) he

theorem State.NoFurtherRequest.congr {s t : State} (h : s.NoFurtherRequest) (hh : t.host = s.host)
    (he : t.hostEnds = s.hostEnds) : t.NoFurtherRequest := fun k => (State.offerAt_congr k hh he).trans (h k)

theorem State.NoFurtherRequest.nextOffer {s : State} (h : s.NoFurtherRequest) : s.nextOffer = none := h 0

theorem State.NoFurtherRequest.takeOffer {s : State} (h : s.NoFurtherRequest) : s.takeOffer.NoFurtherRequest :=
  fun k => h (k + 1)

/-- A host that presents nothing more than it lists, and lists no request, has no further request. -/
theorem State.noFurtherRequest_of_ends (k : Nat) :
    ∀ {s : State}, s.hostEnds = true → (∀ o ∈ s.host.given, o = none) → s.offerAt k = none := by
  have hd : ∀ {s : State}, s.hostEnds = true → (∀ o ∈ s.host.given, o = none) → s.nextOffer = none := by
    intro s he hg
    cases hs : s.host.given with
    | nil => simp [State.nextOffer, Tape.head, hs, he]
    | cons o os => simpa [State.nextOffer, Tape.head, hs] using hg o (by simp [hs])
  induction k with
  | zero => exact hd
  | succ k ih =>
    intro s he hg
    refine ih (s := s.takeOffer) he fun o ho => hg o ?_
    cases hs : s.host.given with
    | nil => simp [Tape.tail, hs] at ho
    | cons a as => simp_all [Tape.tail]

/-- A run that has ended stays ended: no request is accepted any more (R184). -/
theorem State.AtEnd.step {s t : State} (h : s.AtEnd) (ht : step s = .next t) : t.AtEnd := by
  obtain ⟨hc, ⟨hs, hl⟩, hn⟩ := h
  have hw : s.takeTurn.wake = s.takeTurn := s.takeTurn.wake_of_nil hs
  rcases step_cases ht with ⟨w, i, hw', -⟩ | ⟨-, b, -, hx⟩ | ⟨-, -, hq⟩
  · simp [hl] at hw'
  · cases hx
    exact ⟨hc, ⟨hs, hl⟩, hn.congr rfl rfl⟩
  · rw [hw] at hq
    rcases hq with ⟨f, rest, i, hf, -⟩ | ⟨f, rest, hf, -⟩ | ⟨-, -, w, i, ho, -⟩ | ⟨-, -, -, rfl⟩ | ⟨-, ha, -⟩
    · simp [hs] at hf
    · simp [hs] at hf
    · have := (hn.congr (t := s.takeTurn) rfl rfl).nextOffer
      simp [this] at ho
    · exact ⟨hc, ⟨hs, hl⟩, (hn.congr (t := s.takeTurn) rfl rfl).takeOffer⟩
    · simp [hc] at ha

/-! ## The bytes received -/

@[simp] theorem receivedBytes_append (es fs : List Event) :
    receivedBytes (es ++ fs) = receivedBytes es ++ receivedBytes fs := by
  induction es with
  | nil => rfl
  | cons e es ih => cases e <;> simp [receivedBytes, ih]

/-- A receive step is one byte received (R130, R195). -/
theorem storeByte_receivedBytes (s : State) (b : Byte) :
    receivedBytes (s.storeByte b).trace = receivedBytes s.trace ++ [b] := by simp [receivedBytes]

/-- A byte that follows those sent, with its receive step, keeps ENV-RX-NOLOSS (R195). -/
theorem RxNoLoss.storeByte {sent : List Byte} {s : State} (h : RxNoLoss sent s.trace) (b : Byte) :
    RxNoLoss (sent ++ [b]) (s.storeByte b).trace := by
  rw [RxNoLoss, storeByte_receivedBytes, h]

/-- Whole packets one after another are whole packets (R195). -/
theorem Framed.append {xs ys : List Byte} (hx : Framed xs) (hy : Framed ys) : Framed (xs ++ ys) := by
  rw [Framed, List.length_append]
  exact dvd_add hx hy

end Sys2Proof.Machine
end

