-- ==== Sys2Proof/Tests/Slice0.lean ====
section
/-! SUPPORT. Checks of the model's own: ill-formed terms, written-out words, one step of each instruction, and
for each obligation with hypotheses a state and operands that meet them. Expected values are the rules' and
those of spec/95_test_vectors.md (the vector is named where one is used). -/

namespace Sys2Proof.Tests

open Machine

/-! ## A small state -/

def demoCfg : Config where
  top     := .hosted
  tPulse  := 1
  tInit1  := 5
  tInit2  := 2
  tInit0  := none
  tInit3  := none
  intw    := 32
  lcdCols := 16

/-- An idle hosted block with the packet "ABCD". -/
def demo : State where
  cfg     := demoCfg
  pkt     := ⟨0x41, 0x42, 0x43, 0x44⟩
  rxidx   := 0
  ready   := false
  rs      := false
  rw      := false
  e       := false
  dir     := .out
  dbo     := 0x5A
  stat    := 0x00
  n       := 0
  i       := 0
  v       := 0x00
  seq     := []
  turns   := Tape.fresh
  samples := Tape.fresh
  txhw    := Tape.fresh
  host    := Tape.fresh
  hostEnds := false
  trace   := []
  lcdIn   := none
  lcd     := Lcd.reset 16

/-- `demo` with the frames `fs`. -/
def busy (fs : List Frame) : State := { demo with seq := fs }

/-- `demo` with the frames `fs`, the next turns `ts`, and samples `bs`. -/
def scripted (fs : List Frame) (ts : List Turn) (bs : List Byte) : State :=
  { demo with seq := fs, turns := ⟨ts, 0⟩, samples := ⟨bs, 0⟩ }

/-- MAIN's loop at the start of a DISP, in an autonomous build. -/
def looping : State := { demo with cfg := { demoCfg with top := .autonomous }, seq := [.disp .l0, .main .m1] }

/-- A display whose last transaction was a status read that was not busy, after a complete INIT. -/
def readyLcd (k : Screen) : Lcd := { Lcd.reset 16 with view := .known k, gated := true, fsets := 3, initDone := true }

/-- A ready-wait with no busy sample. -/
def quick : Read := ⟨[], 0x00⟩

/-- A ready-wait with two busy samples; the last has every bit but the top one set (V-RDYW-3). -/
def slow : Read := ⟨[0x80, 0xFF], 0x7F⟩

/-- What an outcome leaves, by its trace. -/
def traceOf : Host.Outcome State Fault Refusal → List Event
  | .next t => t.trace
  | _ => []

/-- What an outcome leaves, by its stack. -/
def seqOf : Host.Outcome State Fault Refusal → List Frame
  | .next t => t.seq
  | _ => []

/-! ## Ill-formed terms -/

theorem test_wf_refuses_wide_cmdi : (Instr.cmdi 0x10).wf 4 = false := by decide
theorem test_wf_refuses_wide_cmd : (Instr.cmd 0x10).wf 4 = false := by decide
theorem test_wf_refuses_wide_dat : (Instr.dat 0x10).wf 4 = false := by decide
theorem test_wf_refuses_wide_txb : (Instr.txb 0x10).wf 4 = false := by decide
theorem test_wf_refuses_wide_wint : (Instr.wint 4294967296).wf 32 = false := by decide
theorem test_wf_admits_widest : (Instr.wint 4294967295).wf 32 = true ∧ (Instr.cmdi 0x0F).wf 4 = true := by decide

/-! ## Words written out from R81, R82, R85, R87 and the vectors of 95_test_vectors.md part 2.5 -/

theorem test_decode_rdyw : decodeTableWord 40 0x000000000 = some .rdyw := by decide
theorem test_decode_rdyw_ignores_arg : decodeTableWord 36 0x0DEADBEEF = some .rdyw := by decide
theorem test_decode_cmdi : decodeTableWord 40 0x1FFFFFF30 = some (.cmdi 0x30) := by decide
theorem test_decode_cmd : decodeTableWord 40 0x200000138 = some (.cmd 0x38) := by decide
theorem test_decode_dat : decodeTableWord 40 0x300000041 = some (.dat 0x41) := by decide
theorem test_decode_init : decodeTableWord 40 0x400000000 = some .init := by decide
theorem test_decode_wint : decodeTableWord 40 0x50000007B = some (.wint 123) := by decide
theorem test_decode_wint_whole_arg : decodeTableWord 40 0x5FFFFFFFF = some (.wint 4294967295) := by decide
theorem test_decode_rndr : decodeTableWord 40 0x600000000 = some .rndr := by decide
theorem test_decode_txb : decodeTableWord 40 0x70000004B = some (.txb 0x4B) := by decide
theorem test_decode_xpkt : decodeTableWord 40 0x800000000 = some .xpkt := by decide
theorem test_decode_clrf : decodeTableWord 40 0x900000000 = some .clrf := by decide
theorem test_decode_disp : decodeTableWord 40 0xA00000000 = some .disp := by decide
theorem test_decode_reserved :
    decodeTableWord 40 0xB00000000 = some .reservedB ∧ decodeTableWord 40 0xC00000000 = some .reservedC ∧
    decodeTableWord 40 0xD00000000 = some .reservedD ∧ decodeTableWord 40 0xE00000000 = some .reservedE ∧
    decodeTableWord 40 0xF00000000 = some .reservedF := by decide
theorem test_decode_wide_word : decodeTableWord 40 0x1000000000 = none := by decide
theorem test_decode_narrow_build : decode 4 ⟨.opreq, 0b01011001⟩ = .ok (.wint 9) := by decide
theorem test_decode_wrcmd : decodeTableWord 16 0b0000001111 = some (.lcdWrcmd 0x0F) := by decide
theorem test_decode_wrdata : decodeTableWord 16 0b1001000001 = some (.lcdWrdata 0x41) := by decide
theorem test_decode_rdstat : decodeTableWord 16 0b0101111111 = some (.lcdRdstat 0x7F) := by decide
theorem test_decode_read_of_data : decodeTableWord 16 0b1100000000 = none := by decide
theorem test_decode_fset8 : decodeTableWord 8 0b00110000 = some .fset8 := by decide
theorem test_decode_fset8TwoLine : decodeTableWord 8 0b00111000 = some .fset8TwoLine := by decide
theorem test_decode_entryInc : decodeTableWord 8 0b00000110 = some .entryInc := by decide
theorem test_decode_clear : decodeTableWord 8 0b00000001 = some .clear := by decide
theorem test_decode_dispOnCb : decodeTableWord 8 0b00001111 = some .dispOnCb := by decide
theorem test_decode_ddramL2 : decodeTableWord 8 0b11000000 = some .ddramL2 := by decide
theorem test_decode_rxb : decodeTableWord 8 0x44 = some (.rxb 0x44) := by decide
theorem test_decode_status : decode 32 ⟨.lcdstat, 0x80⟩ = .ok (.lcdRdstat 0x80) := by decide
theorem test_encode_cmd : encode 32 (.cmd 0x38) = ⟨.opreq, 0x200000038⟩ := by decide
theorem test_encode_wrdata : encode 32 (.lcdWrdata 0x41) = ⟨.lcdbus, 0x241⟩ := by decide

/-! ## A word presented after reset is run by the next step -/

theorem test_fetch_cmdi :
    step (State.reset.withFetchWord 40 0x100000030) =
      exec (.cmdi 0x30) { State.reset with cfg := { Config.default with top := .hosted }, seq := [] } := rfl
theorem test_fetch_wrdata :
    step (State.reset.withFetchWord 16 0x241) = exec (.lcdWrdata 0x41) (State.reset.withFetchWord 16 0x241) := rfl
theorem test_fetch_clear :
    step (State.reset.withFetchWord 8 0x01) = exec .clear (State.reset.withFetchWord 8 0x01) := rfl
theorem test_fetch_rxb : step (State.reset.withFetchWord 8 0x44) = exec (.rxb 0x44) State.reset := rfl

/-! ## One step of each instruction -/

/-- V-RDYW-2: a busy sample goes round the loop from W6. -/
theorem test_rdyw_busy_loops :
    exec .rdyw { busy [.rdyw .w6] with stat := 0x80, e := true, rw := true, dir := .inp } =
      .next { busy [.rdyw .w3] with
        stat := 0x80, rw := true, dir := .inp, trace := [.en false] } := rfl

/-- R111 step W8: the last micro-step returns to an idle sequencer. -/
theorem test_rdyw_returns :
    exec .rdyw { busy [.rdyw .w8] with rw := true } =
      .next { busy [] with trace := [.rw false, .opDone .rdyw] } := rfl

/-- V-CMDI-1: step C2 drives the byte. -/
theorem test_cmdi_drives_byte :
    exec (.cmdi 0x30) (busy [.cmdi .c2 0x30]) =
      .next { busy [.cmdi .c3 0x30] with dbo := 0x30, trace := [.bus 0x30] } := rfl

/-- R116: the falling edge of a write reaches the LCD. -/
theorem test_cmdi_reaches_lcd :
    exec (.cmdi 0x30) { busy [.cmdi .c5 0x30] with dbo := 0x30, e := true } =
      .next { busy [] with
        dbo := 0x30, trace := [.en false, .opDone .cmdi], lcdIn := some 0b0000110000 } := rfl

/-- R113: K0 calls the ready-wait. -/
theorem test_cmd_starts_ready_wait : seqOf (exec (.cmd 0x01) demo) = [.rdyw .w0, .cmd .k0 0x01] := by decide

/-- V-CMD-1: after the ready-wait comes the addressing. -/
theorem test_cmd_addresses :
    exec (.cmd 0x01) { busy [.cmd .k1 0x01] with rs := true } =
      .next { busy [.cmd .k2 0x01] with trace := [.rs false] } := rfl

/-- V-DAT-1: register-select 1 for a data write. -/
theorem test_dat_addresses :
    exec (.dat 0x41) (busy [.dat .t1 0x41]) =
      .next { busy [.dat .t2 0x41] with rs := true, trace := [.rs true] } := rfl

/-- R114, R116: a data write reaches the LCD as one. -/
theorem test_dat_reaches_lcd :
    exec (.dat 0x41) { busy [.dat .t6 0x41] with rs := true, dbo := 0x41, e := true } =
      .next { busy [] with
        rs := true, dbo := 0x41, trace := [.en false, .opDone .dat], lcdIn := some 0b1001000001 } := rfl

/-- R120: with no `T_INIT_0` the first step is the first CMDI's. -/
theorem test_init_starts : seqOf (exec .init demo) = [.cmdi .c0 0x30, .init .i1] := by decide

/-- R120: the delay after the first function set, then the second. -/
theorem test_init_delays :
    exec .init (busy [.init .i2]) =
      .next { busy [.cmdi .c0 0x30, .init .i3] with v := 0x30, trace := [.delay 5] } := rfl

/-- V-WINT: 123 starts with its least significant digit. -/
theorem test_wint_last_digit_first :
    seqOf (exec (.wint 123) demo) = [.rdyw .w0, .dat .t0 0x33, .wint .n2] := by decide

/-- V-WINT: 0 writes nothing and is over at once. -/
theorem test_wint_zero : traceOf (exec (.wint 0) demo) = [.opStart .wint, .opDone .wint] := by decide

/-- V-RNDR-1: the packet byte is read before its DAT. -/
theorem test_rndr_reads_packet :
    exec .rndr { busy [.rndr .d2a] with i := 2 } =
      .next { busy [.rdyw .w0, .dat .t0 0x43, .rndr .d2b] with
        i := 2, v := 0x43, trace := [.pktRead 2 0x43] } := rfl

/-- R123: after the last label character comes the packet. -/
theorem test_rndr_label_ends :
    exec (.dat 0x3A) { busy [.dat .t6 0x3A, .rndr .d1] with i := 7, rs := true, dbo := 0x3A, e := true } =
      .next { busy [.rndr .d2a] with
        i := 0, rs := true, dbo := 0x3A, trace := [.en false], lcdIn := some 0b1000111010 } := rfl

/-- V-TXB-1: a poll that says "not ready" is repeated. -/
theorem test_txb_polls_again :
    exec (.txb 0x41) { busy [.txb .x0 0x41] with txhw := ⟨[false, true], 0⟩ } =
      .next { busy [.txb .x0 0x41] with txhw := ⟨[true], 0⟩, trace := [.txPoll false] } := rfl

/-- V-TXB-2: the write. -/
theorem test_txb_writes :
    exec (.txb 0x41) (busy [.txb .x1 0x41]) =
      .next { busy [] with trace := [.txWrite 0x41, .opDone .txb] } := rfl

/-- V-XPKT-3: the byte is read after the poll. -/
theorem test_xpkt_reads_after_poll :
    exec .xpkt { busy [.xpkt .e1] with i := 2 } =
      .next { busy [.xpkt .e2] with i := 2, v := 0x43, trace := [.pktRead 2 0x43] } := rfl

/-- R133: it returns after the fourth byte. -/
theorem test_xpkt_ends :
    exec .xpkt { busy [.xpkt .e2] with i := 3, v := 0x44 } =
      .next { busy [] with i := 3, v := 0x44, trace := [.txWrite 0x44, .opDone .xpkt] } := rfl

/-- V-CLRF-1. -/
theorem test_clrf_clears :
    exec .clrf { busy [.clrf] with ready := true } =
      .next { busy [] with trace := [.flagClear, .opDone .clrf] } := rfl

/-- V-DISP-0: the flag clear. -/
theorem test_disp_flag_clear :
    exec .disp (busy [.disp .l0]) = .next { busy [] with trace := [.flagRead false, .opDone .disp] } := rfl

/-- R140: the flag set. -/
theorem test_disp_flag_set :
    seqOf (exec .disp { busy [.disp .l0] with ready := true }) =
      [.rdyw .w0, .cmd .k0 0x01, .rndr .d0, .disp .l1] := by decide

/-- V-HOST-1. -/
theorem test_reserved_refused :
    exec .reservedB demo = .refused (.reservedOpcode 0xB) ∧
    exec .reservedF demo = .refused (.reservedOpcode 0xF) := ⟨rfl, rfl⟩

/-- R150 from power-on. -/
theorem test_fset8 :
    exec .fset8 demo = exec (.lcdWrcmd 0x30) demo ∧
    exec .fset8 demo = .next { demo with
      lcd := { Lcd.reset 16 with
        view := .known { Screen.reset 16 with fmt := .eightBit }, fsets := 1, initAt := 1 } } := ⟨rfl, rfl⟩

/-- R151. -/
theorem test_fset8TwoLine :
    exec .fset8TwoLine { demo with lcd := readyLcd (Screen.reset 16) } = .next { demo with
      lcd := { readyLcd { Screen.reset 16 with fmt := .eightBitTwoLine5x7 } with
        gated := false, powerOn := false } } := rfl

/-- R152. -/
theorem test_entryInc :
    exec .entryInc { demo with lcd := readyLcd (Screen.reset 16) } = .next { demo with
      lcd := { readyLcd { Screen.reset 16 with entry := .incrementNoShift } with
        gated := false, powerOn := false } } := rfl

/-- R153. -/
theorem test_clear :
    exec .clear { demo with lcd := readyLcd (Screen.reset 16) } = .next { demo with
      lcd := { readyLcd { Screen.reset 16 with
          line1 := List.replicate 16 .blank, line2 := List.replicate 16 .blank, cur := some (.one, 0) } with
        gated := false, powerOn := false } } := rfl

/-- R154. -/
theorem test_dispOnCb :
    exec .dispOnCb { demo with lcd := readyLcd (Screen.reset 16) } = .next { demo with
      lcd := { readyLcd { Screen.reset 16 with on := true, cursorOn := true, blink := true } with
        gated := false, powerOn := false } } := rfl

/-- R155. -/
theorem test_ddramL2 :
    exec .ddramL2 { demo with lcd := readyLcd (Screen.reset 16) } = .next { demo with
      lcd := { readyLcd { Screen.reset 16 with cur := some (.two, 0) } with
        gated := false, powerOn := false } } := rfl

/-- V-CMDI-3: another command byte leaves the view unknown. -/
theorem test_wrcmd_other_byte :
    exec (.lcdWrcmd 0xFF) { demo with lcd := readyLcd (Screen.reset 16) } = .next { demo with
      lcd := { Lcd.reset 16 with view := .unknown, fsets := 3, powerOn := false, initDone := true } } := rfl

/-- R156, its example: the first cell, then the cursor at column 1. -/
theorem test_wrdata_places :
    exec (.lcdWrdata 0x43) { demo with lcd := readyLcd (Screen.configured 16) } = .next { demo with
      lcd := { readyLcd { Screen.configured 16 with
          line1 := .byte 0x43 :: List.replicate 15 .blank, cur := some (.one, 1) } with
        gated := false, powerOn := false } } := rfl

/-- R157: 0x80 is busy, 0x7F is ready. -/
theorem test_rdstat :
    exec (.lcdRdstat 0x80) demo = .next { demo with lcd := { Lcd.reset 16 with polled := true } } ∧
    exec (.lcdRdstat 0x7F) demo = .next { demo with lcd := { Lcd.reset 16 with gated := true, polled := true } } := ⟨rfl, rfl⟩

/-- V-RXB-1. -/
theorem test_rxb_fourth_byte :
    exec (.rxb 0x5A) { demo with rxidx := 3 } = .next { demo with
      pkt := ⟨0x41, 0x42, 0x43, 0x5A⟩, ready := true, trace := [.rxByte 0x5A 3 true] } := rfl

/-- V-RXB-2: an overrun is a step like any other. -/
theorem test_rxb_overrun :
    exec (.rxb 0x14) { demo with ready := true } = .next { demo with
      pkt := ⟨0x14, 0x42, 0x43, 0x44⟩, rxidx := 1, ready := true, trace := [.rxByte 0x14 0 true] } := rfl

/-- R142: a busy sequencer accepts nothing. -/
theorem test_busy_host_waits : exec .clrf (busy [.disp .l0]) = .next (busy [.disp .l0]) := rfl

/-- R15: during a ready-wait the block does not drive the bus. -/
theorem test_ports :
    { busy [.rdyw .w4] with rw := true, e := true, dir := .inp }.ports = ⟨false, true, true, 0x5A, false, false⟩ ∧
    demo.ports.opIdle = true := by decide

/-- R94, R121, R132: spellings and expansions. -/
theorem test_listing :
    listingLine (.cmd 0x3F) = "CMD 0x3F" ∧ listingLine (.wint 123) = "WINT 123" ∧ listingLine .rndr = "RNDR" ∧
    expandWtxt [0x48, 0x69] = [.dat 0x48, .dat 0x69] ∧ expandXmit [0x4F] = [.txb 0x4F] := by decide

/-- V-RXB-2: the last two of six bytes overran. -/
theorem test_overruns :
    overruns false [.rxByte 0x12 2 false, .rxByte 0x13 3 true, .rxByte 0x14 0 true, .rxByte 0x15 1 true] = 2 := by
  decide

/-- R158: RDYW before INIT, and a second INIT after text and a byte outside the six, end in the view of R158. -/
theorem test_init_from_anywhere :
    (lcdAfter 12 (quick.txns ++ initTxns quick slow quick quick)).view = .known (Screen.configured 12) ∧
    (lcdAfter 12 (initTxns quick quick quick quick ++ datTxns quick 0x41 ++ cmdTxns quick 0x02 ++
      initTxns slow quick quick quick)).view = .known (Screen.configured 12) := ⟨rfl, rfl⟩

/-- R120, R159: seven bare writes, or a status read between the function sets, make no complete INIT. -/
theorem test_init_needs_ready_waits :
    (lcdAfter 12 (initWrites.map .wrcmd)).initDone = false ∧
    (lcdAfter 12 ([.wrcmd 0x30, .wrcmd 0x30, .rdstat 0x00] ++ initTxns quick quick quick quick)).initDone = true ∧
    (lcdAfter 12 ([.wrcmd 0x30, .wrcmd 0x30, .rdstat 0x00, .wrcmd 0x30] ++ cmdTxns quick 0x38 ++ cmdTxns quick 0x06 ++
      cmdTxns quick 0x01 ++ cmdTxns quick 0x0F)).initDone = false := ⟨rfl, rfl, rfl⟩

/-- U10, R159: three immediate function sets of a host are no INIT; gated writes after them leave the view unknown,
through a clear and a text, until an INIT completes. -/
theorem test_gated_before_init :
    (lcdAfter 12 ([.wrcmd 0x30, .wrcmd 0x30, .wrcmd 0x30] ++ cmdTxns quick 0x06)).view = .unknown ∧
    (lcdAfter 12 ([.wrcmd 0x30, .wrcmd 0x30, .wrcmd 0x30] ++ cmdTxns quick 0x06 ++ cmdTxns quick 0x01 ++
      datTxns quick 0x41)).view = .unknown ∧
    (lcdAfter 12 ([.wrcmd 0x30, .wrcmd 0x30, .wrcmd 0x30] ++ datTxns quick 0x41 ++
      initTxns quick quick slow quick)).view = .known (Screen.configured 12) := ⟨rfl, rfl, rfl⟩

/-- A host that issues nothing more than it lists. -/
def closing (os : List (Option Nat)) : State := { demo with host := ⟨os, 0⟩, hostEnds := true }

/-- R184: a pause of the host is no end of the run. -/
theorem test_pause_is_no_end : ¬(closing [none, some 0xA00000000]).AtEnd := fun h => by cases h.2.2 1

/-- R184: a run whose host issues nothing more has ended. -/
theorem test_end : (closing [none, none]).AtEnd :=
  ⟨rfl, ⟨rfl, rfl⟩, fun k => State.noFurtherRequest_of_ends k rfl (by decide)⟩

/-- R195: a whole packet is framed, and every byte sent is received once and in order. -/
theorem test_premises :
    Framed [0x41, 0x42, 0x43, 0x44] ∧ ¬Framed [0x41, 0x42, 0x43] ∧
    RxNoLoss [0x41, 0x42] [.rxByte 0x41 0 false, .flagRead false, .rxByte 0x42 1 false] ∧
    ¬RxNoLoss [0x41, 0x42] [.rxByte 0x42 0 false] := by
  simp only [Framed, RxNoLoss]
  decide

/-- R83 leaves open what a narrow `arg` gives: the missing bits are 0 (log entry 19). -/
theorem test_narrow_byte_operand : decode 4 ⟨.opreq, 0b00111111⟩ = .ok (.dat 0x0F) := by decide

/-- R180: `rst` puts the reset values back. -/
theorem test_rst : (busy [.disp .l0]).assertRst = State.resetWith demoCfg := rfl

/-! ## Witnesses: states and operands that meet the hypotheses of each obligation

Each is named after its obligation; where the statement has clauses, each clause has its own. -/

theorem witness_DecodeEncode :
    (Instr.cmdi 0xFF).wf 8 = true ∧ (Instr.wint 15).wf 4 = true ∧ Instr.rdyw.wf 0 = true ∧
    (Instr.lcdRdstat 0xFF).wf 32 = true ∧ Instr.ddramL2.wf 32 = true ∧ (Instr.rxb 0xFF).wf 32 = true := by decide

theorem witness_RequestOperands : 0 < 2 ^ 0 ∧ 255 < 2 ^ 8 ∧ 4294967295 < 2 ^ 32 := by decide

theorem witness_StepRunsDecodedInstruction_transaction :
    { demo with lcdIn := some 0x2FF }.lcdIn = some 0x2FF ∧
    decode 32 ⟨.lcdbus, (0x2FF : BusWord).toNat⟩ = .ok (.lcdWrdata 0xFF) := ⟨rfl, rfl⟩

theorem witness_StepRunsDecodedInstruction_byte :
    (scripted [.clrf] [.rx 0x00] []).lcdIn = none ∧ (scripted [.clrf] [.rx 0x00] []).nextTurn = .rx 0x00 := by decide

theorem witness_StepRunsDecodedInstruction_frame :
    (scripted [.cmd .k6 0x01, .rndr .d0] [.seq] []).lcdIn = none ∧
    (scripted [.cmd .k6 0x01, .rndr .d0] [.seq] []).nextTurn = .seq ∧
    (scripted [.cmd .k6 0x01, .rndr .d0] [.seq] []).seq = .cmd .k6 0x01 :: [.rndr .d0] ∧
    frameInstr 0 (.cmd .k6 0x01) = some (.cmd 0x01) := by decide

/-- `demo` with the host presenting `o`. -/
def offered (o : Option Nat) : State := { demo with turns := ⟨[.seq], 0⟩, host := ⟨[o], 0⟩ }

theorem witness_StepRunsDecodedInstruction_request :
    (offered (some 0xA00000000)).lcdIn = none ∧ (offered (some 0xA00000000)).nextTurn = .seq ∧
    (offered (some 0xA00000000)).seq = [] ∧ (offered (some 0xA00000000)).cfg.top = .hosted ∧
    (offered (some 0xA00000000)).nextOffer = some 0xA00000000 ∧
    decode 32 (portRequest 32 0xA00000000) = .ok .disp := by decide

theorem witness_PresentedWordRunsNext :
    decodeTableWord 40 0xFFFFFFFFF = some .reservedF ∧ decodeTableWord 16 0x2FF = some (.lcdWrdata 0xFF) ∧
    decodeTableWord 8 0x30 = some .fset8 ∧ decodeTableWord 8 0x00 = some (.rxb 0x00) := by decide

theorem witness_BusySequencerTakesNoRequest :
    (scripted [.clrf] [.seq] []).seq ≠ [] ∧ ∃ t, step (scripted [.clrf] [.seq] []) = .next t :=
  ⟨by decide, _, rfl⟩

theorem witness_IdleWithoutRequestChangesNothing :
    (offered none).Idle ∧ (offered none).nextTurn = .seq ∧ (offered none).cfg.top = .hosted ∧
    (offered none).nextOffer = none := ⟨⟨rfl, rfl⟩, rfl, rfl, rfl⟩

theorem witness_OnlyReservedCodesStop :
    Instr.rxb 0 ≠ .reservedB ∧ Instr.rxb 0 ≠ .reservedC ∧ Instr.rxb 0 ≠ .reservedD ∧
    Instr.rxb 0 ≠ .reservedE ∧ Instr.rxb 0 ≠ .reservedF := by decide

/-- The answers of `demo`'s environment: the reads `rs`, the waits `ks`, and `k` turns for the sequencer. -/
def served (rs : List Read) (ks : List Nat) (k : Nat) : State :=
  { demo with
    samples := ⟨rs.flatMap Read.bytes ++ [0x80], 0⟩
    txhw := ⟨ks.flatMap pollBits ++ [false], 0⟩
    turns := ⟨List.replicate k .seq ++ [.rx 0x41], 0⟩ }

theorem served_idle (rs : List Read) (ks : List Nat) (k : Nat) : (served rs ks k).Idle := ⟨rfl, rfl⟩

theorem served_reads (rs : List Read) (ks : List Nat) (k : Nat) (h : ∀ r ∈ rs, r.Live) :
    (served rs ks k).Reads rs [0x80] := ⟨h, rfl⟩

theorem served_polls (rs : List Read) (ks : List Nat) (k : Nat) : (served rs ks k).Polls ks [false] := rfl

theorem served_turns (rs : List Read) (ks : List Nat) (k : Nat) :
    (served rs ks k).SeqTurns k [.rx 0x41] := rfl

theorem quick_live : quick.Live := by unfold Read.Live; decide

theorem slow_live : slow.Live := by unfold Read.Live; decide

/-- Every read of a list of these two is live. -/
theorem all_live (rs : List Read) (h : rs.all (fun r => r == quick || r == slow) = true) :
    ∀ r ∈ rs, r.Live := by
  intro r hr
  have := List.all_eq_true.mp h r hr
  simp only [Bool.or_eq_true, beq_iff_eq] at this
  rcases this with rfl | rfl
  · exact quick_live
  · exact slow_live

/-- The fourteen reads of a RNDR with a busy LCD now and then. -/
def label8 : List Read := [quick, slow, quick, quick, quick, quick, quick, slow]

def rndr14 : List Read := slow :: label8 ++ [quick, slow, quick, quick, quick]

theorem witness_RdywCompletes :
    (served [slow] [] slow.turns).Idle ∧ (served [slow] [] slow.turns).Reads [slow] [0x80] ∧
    (served [slow] [] slow.turns).SeqTurns slow.turns [.rx 0x41] :=
  ⟨served_idle .., served_reads _ _ _ (all_live _ rfl), served_turns ..⟩

theorem witness_CmdiCompletes : (served [] [] 6).Idle ∧ (served [] [] 6).SeqTurns 6 [.rx 0x41] :=
  ⟨served_idle .., served_turns ..⟩

theorem witness_CmdCompletes_DatCompletes :
    (served [quick] [] quick.writeTurns).Idle ∧ (served [quick] [] quick.writeTurns).Reads [quick] [0x80] ∧
    (served [quick] [] quick.writeTurns).SeqTurns quick.writeTurns [.rx 0x41] :=
  ⟨served_idle .., served_reads _ _ _ (all_live _ rfl), served_turns ..⟩

theorem witness_InitCompletes :
    (served [quick, slow, quick, quick] [] (initTurns demoCfg [quick, slow, quick, quick])).Idle ∧
    (served [quick, slow, quick, quick] [] (initTurns demoCfg [quick, slow, quick, quick])).Reads
      [quick, slow, quick, quick] [0x80] ∧
    (served [quick, slow, quick, quick] [] (initTurns demoCfg [quick, slow, quick, quick])).SeqTurns
      (initTurns demoCfg [quick, slow, quick, quick]) [.rx 0x41] :=
  ⟨served_idle .., served_reads _ _ _ (all_live _ rfl), served_turns ..⟩

theorem witness_WintWritesDigitsReversed :
    (served [slow, quick, quick] [] ([slow, quick, quick].map Read.writeTurns).sum).Idle ∧ 0 < 105 ∧
    105 < 2 ^ demoCfg.intw ∧ [slow, quick, quick].length = (Nat.digits 10 105).length ∧
    (served [slow, quick, quick] [] ([slow, quick, quick].map Read.writeTurns).sum).Reads
      [slow, quick, quick] [0x80] ∧
    (served [slow, quick, quick] [] ([slow, quick, quick].map Read.writeTurns).sum).SeqTurns
      ([slow, quick, quick].map Read.writeTurns).sum [.rx 0x41] :=
  ⟨served_idle .., by decide, by decide, by norm_num, served_reads _ _ _ (all_live _ rfl), served_turns ..⟩

/-- The least and the greatest number of a narrow build: one digit, and two with an `INTW` of 4. -/
theorem witness_WintWritesDigitsReversed_bounds :
    [quick].length = (Nat.digits 10 1).length ∧ [quick, quick].length = (Nat.digits 10 15).length ∧
    15 < 2 ^ 4 := by norm_num

theorem witness_WintZeroWritesNothing : demo.seq = [] := rfl

theorem witness_RndrCompletes :
    (served rndr14 [] (rndrTurns rndr14)).Idle ∧ label8.length = 8 ∧
    (served rndr14 [] (rndrTurns rndr14)).Reads (slow :: label8 ++ [quick, slow, quick, quick, quick]) [0x80] ∧
    (served rndr14 [] (rndrTurns rndr14)).SeqTurns (rndrTurns rndr14) [.rx 0x41] :=
  ⟨served_idle .., rfl, served_reads _ _ _ (all_live _ rfl), served_turns ..⟩

/-- A host that writes "Hi" (R121's example). -/
def hiComing : State :=
  { served [quick, slow] [] (2 + ([quick, slow].map Read.writeTurns).sum) with
    host := ⟨[some 0x300000048, some 0x300000069, none], 0⟩ }

theorem witness_HostedTextIsWritten :
    hiComing.Idle ∧ hiComing.cfg.top = .hosted ∧ 8 ≤ hiComing.cfg.intw ∧
    [quick, slow].length = ([0x48, 0x69] : List Byte).length ∧ hiComing.Reads [quick, slow] [0x80] ∧
    hiComing.host.given =
      ((expandWtxt [0x48, 0x69]).map fun i => some (encode hiComing.cfg.intw i).bits) ++ [none] ∧
    hiComing.SeqTurns (([0x48, 0x69] : List Byte).length + ([quick, slow].map Read.writeTurns).sum) [.rx 0x41] :=
  ⟨⟨rfl, rfl⟩, rfl, by decide, rfl, ⟨all_live _ rfl, rfl⟩, rfl, rfl⟩

theorem witness_HostedTextIsWritten_empty :
    (served [] [] 0).Idle ∧ (served [] [] 0).cfg.top = .hosted ∧ ([] : List Read).length = ([] : List Byte).length ∧
    (served [] [] 0).Reads [] [0x80] ∧ (served [] [] 0).SeqTurns 0 [.rx 0x41] :=
  ⟨⟨rfl, rfl⟩, rfl, rfl, ⟨all_live _ rfl, rfl⟩, rfl⟩

theorem witness_TxbCompletes :
    (served [] [2] 4).Idle ∧ (served [] [2] 4).Polls [2] [false] ∧ (served [] [2] 4).SeqTurns (2 + 2) [.rx 0x41] :=
  ⟨served_idle .., served_polls .., served_turns ..⟩

theorem witness_XpktCompletes :
    (served [] [1, 0, 2, 0] (xpktTurns [1, 0, 2, 0])).Idle ∧
    (served [] [1, 0, 2, 0] (xpktTurns [1, 0, 2, 0])).Polls [1, 0, 2, 0] [false] ∧
    (served [] [1, 0, 2, 0] (xpktTurns [1, 0, 2, 0])).SeqTurns (xpktTurns [1, 0, 2, 0]) [.rx 0x41] :=
  ⟨served_idle .., served_polls .., served_turns ..⟩

theorem witness_ClrfCompletes :
    demo.seq = [] ∧ (busy [.clrf, .disp .l3]).seq = [.clrf, .disp .l3] ∧
    (busy [.clrf, .disp .l3, .main .m1]).seq = [.clrf, .disp .l3, .main .m1] := ⟨rfl, rfl, rfl⟩

theorem witness_DispWithFlagClear :
    demo.ready = false ∧ demo.seq = [] ∧ looping.ready = false ∧ looping.seq = [.disp .l0, .main .m1] :=
  ⟨rfl, rfl, rfl, rfl⟩

/-- A hosted block with a packet to serve. -/
def withPacket : State :=
  { served rndr14 [1, 0, 2, 0] (1 + rndrTurns rndr14 + xpktTurns [1, 0, 2, 0] + 1) with ready := true }

theorem witness_DispServesPacket :
    withPacket.Idle ∧ withPacket.ready = true ∧ label8.length = 8 ∧
    withPacket.Reads (slow :: label8 ++ [quick, slow, quick, quick, quick]) [0x80] ∧
    withPacket.Polls [1, 0, 2, 0] [false] ∧
    withPacket.SeqTurns
      (1 + rndrTurns (slow :: label8 ++ [quick, slow, quick, quick, quick]) + xpktTurns [1, 0, 2, 0] + 1)
      [.rx 0x41] :=
  ⟨⟨rfl, rfl⟩, rfl, rfl, ⟨all_live _ rfl, rfl⟩, rfl, rfl⟩

theorem witness_FourBytesMakePacket : demo.rxidx = 0 := rfl

theorem witness_ReceiveIndexCountsModuloFour :
    { demo with turns := ⟨[.rx 1, .rx 2, .rx 3, .rx 4, .rx 5], 0⟩ }.turns.given =
      ([1, 2, 3, 4, 5] : List Byte).map .rx ∧
    ∃ t, steps 5 { demo with turns := ⟨[.rx 1, .rx 2, .rx 3, .rx 4, .rx 5], 0⟩ } = .next t := ⟨rfl, _, rfl⟩

theorem witness_ClearAndFourthByteRace :
    { busy [.clrf, .disp .l3] with rxidx := 3 }.seq = .clrf :: [.disp .l3] ∧
    { busy [.clrf, .disp .l3] with rxidx := 3 }.rxidx = 3 := ⟨rfl, rfl⟩

theorem witness_RndrReadsPacketLive : (busy [.rndr .d2a, .disp .l1]).seq = .rndr .d2a :: [.disp .l1] := rfl

/-- A display ready for a gated write with `n` of INIT's writes behind it and no INIT complete. -/
def duringInit (n : Nat) : Lcd := { readyLcd (Screen.reset 16) with initDone := false, initAt := n }

theorem witness_CommandBytesActOnView :
    (readyLcd (Screen.reset 16)).view = .known (Screen.reset 16) ∧ (readyLcd (Screen.reset 16)).gated = true ∧
    (readyLcd (Screen.reset 16)).initDone = true := by decide

/-- Just before each of INIT's four gated writes, and with an INIT not begun or one write short. -/
theorem witness_CommandBytesActOnView_during :
    (∀ n ∈ [0, 2, 3, 4, 5, 6], (duringInit n).view = .known (Screen.reset 16) ∧ (duringInit n).gated = true ∧
      (duringInit n).initDone = false ∧ (duringInit n).initAt = n) := by decide

theorem witness_UngatedWrites_powerOn :
    (Lcd.reset 16).gated = false ∧ (Lcd.reset 16).view = .known (Screen.reset 16) ∧
    (Lcd.reset 16).powerOn = true ∧ (Lcd.reset 16).fsets < 3 ∧
    { Lcd.reset 16 with fsets := 2 }.fsets < 3 := by decide

theorem witness_UngatedWrites_otherwise :
    (Lcd.reset 16).gated = false ∧ ((0x01 : Byte) ≠ 0x30 ∨ (Lcd.reset 16).powerOn = false ∨ 3 ≤ (Lcd.reset 16).fsets) ∧
    ((0x30 : Byte) ≠ 0x30 ∨ { Lcd.reset 16 with fsets := 3 }.powerOn = false ∨
      3 ≤ { Lcd.reset 16 with fsets := 3 }.fsets) := by decide

theorem witness_OtherCommandByteMakesViewUnknown :
    (0x00 : Byte) ∉ ([0x30, 0x38, 0x06, 0x01, 0x0F, 0xC0] : List Byte) ∧
    (0x02 : Byte) ∉ ([0x30, 0x38, 0x06, 0x01, 0x0F, 0xC0] : List Byte) ∧
    (0xFF : Byte) ∉ ([0x30, 0x38, 0x06, 0x01, 0x0F, 0xC0] : List Byte) := by decide

/-- A configured display with the cursor at column `c` of line `x`. -/
def cursorAt (x : LcdLine) (c : Nat) : Screen := { Screen.configured 16 with cur := some (x, c) }

theorem witness_DataWritePlacesCharacter_line1 :
    (readyLcd (cursorAt .one 15)).view = .known (cursorAt .one 15) ∧ (readyLcd (cursorAt .one 15)).gated = true ∧
    (readyLcd (cursorAt .one 15)).initDone = true ∧ (cursorAt .one 15).entry = .incrementNoShift ∧
    (cursorAt .one 15).cur = some (.one, 15) ∧ 15 < demoCfg.lcdCols := by decide

theorem witness_DataWritePlacesCharacter_line2 :
    (readyLcd (cursorAt .two 0)).view = .known (cursorAt .two 0) ∧ (cursorAt .two 0).entry = .incrementNoShift ∧
    (cursorAt .two 0).cur = some (.two, 0) ∧ 0 < demoCfg.lcdCols := by decide

theorem witness_DataWritePlacesCharacter_unknown :
    (Screen.reset 16).entry = .unset ∧ (Screen.reset 16).cur = none ∧
    (cursorAt .two 16).cur = some (.two, 16) ∧ demoCfg.lcdCols ≤ 16 := by decide

theorem witness_DataWritePlacesCharacter_before :
    (duringInit 6).view = .known (Screen.reset 16) ∧ (duringInit 6).gated = true ∧ (duringInit 6).initDone = false := by
  decide

/-- An unknown view with what R159 asks of a clear that ends it. -/
def unknownLcd : Lcd := { readyLcd (Screen.reset 16) with view := .unknown }

theorem witness_UnknownViewStaysUnknown_stays :
    { Lcd.reset 16 with view := .unknown }.view = .unknown ∧
    (∀ c, Txn.wrcmd c ∈ [Txn.wrdata 0x01, .wrcmd 0x06, .rdstat 0x01, .wrcmd 0x0F] → c ≠ 0x01) ∧
    { Lcd.reset 16 with view := .unknown, initAt := 5 }.initAt ≠ 6 ∧
    { Lcd.reset 16 with view := .unknown }.initDone = false := by
  refine ⟨rfl, ?_, by decide, rfl⟩
  intro c hc
  simp only [List.mem_cons, Txn.wrcmd.injEq, reduceCtorEq, List.not_mem_nil, or_false, false_or] at hc
  rcases hc with rfl | rfl <;> decide

theorem witness_UnknownViewStaysUnknown_ends :
    unknownLcd.view = .unknown ∧ unknownLcd.initDone = true ∧ unknownLcd.gated = true ∧
    { unknownLcd with initAt := 6 }.initAt = 6 := by decide

theorem witness_InitConfiguresView : quick.Live ∧ slow.Live := ⟨quick_live, slow_live⟩

theorem witness_RndrShowsCommandScreen :
    12 ≤ 12 ∧ { readyLcd (Screen.configured 12) with gated := false }.initDone = true ∧ label8.length = 8 ∧
    (∀ r ∈ slow :: label8 ++ [quick, slow, quick, quick, quick], r.Live) ∧
    { readyLcd (Screen.configured 12) with gated := false }.view = .known (Screen.configured 12) ∧
    (Screen.configured 12).entry = .incrementNoShift :=
  ⟨by decide, by decide, rfl, all_live _ rfl, rfl, rfl⟩

theorem witness_RndrShowsCommandScreen_unknown :
    unknownLcd.initDone = true ∧ unknownLcd.view = .unknown := by decide

theorem witness_InitTransactionTrace_RndrTransactionTrace :
    (⟨true, false, false, .out, 0x5A⟩ : Lines).e = false ∧ label8.length = 8 := ⟨rfl, rfl⟩

/-! States that meet the invariant, each met on a run. -/

theorem demo_inv : demo.Inv := ⟨by decide, by decide, rfl, rfl, rfl, rfl, rfl, rfl⟩

/-- W4 of the ready-wait of the clear in INIT. -/
def inReadWait : State :=
  { scripted [.rdyw .w4, .cmd .k0 0x01, .init .i9] [.seq] [] with rw := true, e := true, dir := .inp }

theorem inReadWait_inv : inReadWait.Inv := ⟨by decide, by decide, rfl, rfl, rfl, rfl, rfl, rfl⟩

/-- K6 of a CMD. -/
def inCmdWrite : State :=
  { scripted [.cmd .k6 0x01, .rndr .d0] [.seq] [] with
    e := true, dbo := 0x01, lcd := readyLcd (Screen.reset 16) }

theorem inCmdWrite_inv : inCmdWrite.Inv := ⟨by decide, by decide, rfl, rfl, rfl, rfl, rfl, rfl⟩

/-- T6 of a DAT of WINT 17. -/
def inDatWrite : State :=
  { scripted [.dat .t6 0x37, .wint .n2] [.seq] [] with
    rs := true, e := true, dbo := 0x37, n := 17, lcd := readyLcd (Screen.reset 16) }

theorem inDatWrite_inv : inDatWrite.Inv := ⟨by decide, by decide, rfl, rfl, rfl, rfl, rfl, rfl⟩

/-- C5 of a CMDI. -/
def inCmdiWrite : State :=
  { scripted [.cmdi .c5 0x30, .init .i1] [.seq] [] with e := true, dbo := 0x30 }

theorem inCmdiWrite_inv : inCmdiWrite.Inv := ⟨by decide, by decide, rfl, rfl, rfl, rfl, rfl, rfl⟩

theorem witness_PrimitivesFrame :
    inReadWait.Inv ∧ (∃ t, exec .rdyw inReadWait = .next t) ∧
    inCmdiWrite.Inv ∧ (∃ t, exec (.cmdi 0x30) inCmdiWrite = .next t) ∧
    inCmdWrite.Inv ∧ (∃ t, exec (.cmd 0x01) inCmdWrite = .next t) ∧
    inDatWrite.Inv ∧ ∃ t, exec (.dat 0x37) inDatWrite = .next t :=
  ⟨inReadWait_inv, ⟨_, rfl⟩, inCmdiWrite_inv, ⟨_, rfl⟩, inCmdWrite_inv, ⟨_, rfl⟩, inDatWrite_inv, _, rfl⟩

/-- I2 of INIT, and D2a of RNDR for the last packet byte. -/
theorem init_rndr_inv : (busy [.init .i2]).Inv ∧ { busy [.rndr .d2a] with i := 3 }.Inv :=
  ⟨⟨by decide, by decide, rfl, rfl, rfl, rfl, rfl, rfl⟩, ⟨by decide, by decide, rfl, rfl, rfl, rfl, rfl, rfl⟩⟩

theorem witness_CompositesFrame :
    (busy [.init .i2]).Inv ∧ (∃ t, exec .init (busy [.init .i2]) = .next t) ∧
    demo.Inv ∧ (∃ t, exec (.wint 10) demo = .next t) ∧
    { busy [.rndr .d2a] with i := 3 }.Inv ∧ ∃ t, exec .rndr { busy [.rndr .d2a] with i := 3 } = .next t :=
  ⟨init_rndr_inv.1, ⟨_, rfl⟩, demo_inv, ⟨_, rfl⟩, init_rndr_inv.2, _, rfl⟩

theorem handoff_inv :
    (busy [.txb .x1 0x41]).Inv ∧ { busy [.xpkt .e2] with i := 3 }.Inv ∧ { busy [.clrf] with ready := true }.Inv ∧
    (busy [.disp .l0]).Inv :=
  ⟨⟨by decide, by decide, rfl, rfl, rfl, rfl, rfl, rfl⟩, ⟨by decide, by decide, rfl, rfl, rfl, rfl, rfl, rfl⟩,
    ⟨by decide, by decide, rfl, rfl, rfl, rfl, rfl, rfl⟩, ⟨by decide, by decide, rfl, rfl, rfl, rfl, rfl, rfl⟩⟩

theorem witness_HandoffFrame :
    (∃ t, exec (.txb 0x41) (busy [.txb .x1 0x41]) = .next t) ∧
    (∃ t, exec .xpkt { busy [.xpkt .e2] with i := 3 } = .next t) ∧
    (∃ t, exec .clrf { busy [.clrf] with ready := true } = .next t) ∧
    ∃ t, exec .disp (busy [.disp .l0]) = .next t := ⟨⟨_, rfl⟩, ⟨_, rfl⟩, ⟨_, rfl⟩, _, rfl⟩

theorem witness_LcdRowsFrame :
    Instr.lcdWrdata 0x41 ∈ [Instr.lcdWrcmd 0x41, .lcdWrdata 0x41, .lcdRdstat 0x41, .fset8, .fset8TwoLine, .entryInc,
      .clear, .dispOnCb, .ddramL2] ∧ ∃ t, exec (.lcdWrdata 0x41) demo = .next t := ⟨by decide, _, rfl⟩

theorem witness_ContextRights_foreground :
    (∃ t, step inCmdWrite = .next t) ∧ inCmdWrite.nextTurn = .seq ∧
    (∃ t, step { inCmdWrite with lcdIn := some 0x001 } = .next t) ∧
    { inCmdWrite with lcdIn := some 0x001 }.lcdIn.isSome := ⟨⟨_, rfl⟩, rfl, ⟨_, rfl⟩, rfl⟩

theorem witness_ContextRights_interrupt :
    (∃ t, step (scripted [.disp .l0] [.rx 0x41] []) = .next t) ∧ (scripted [.disp .l0] [.rx 0x41] []).lcdIn = none ∧
    (scripted [.disp .l0] [.rx 0x41] []).nextTurn = .rx 0x41 ∧ (1 : BitVec 2) ≠ demo.rxidx :=
  ⟨⟨_, rfl⟩, rfl, rfl, by decide⟩

theorem witness_ReadyChangesOnlyByRxbAndClrf_rises :
    ∃ t, step { scripted [] [.rx 0x41] [] with rxidx := 3 } = .next t ∧ demo.ready = false ∧ t.ready = true :=
  ⟨_, rfl, rfl, rfl⟩

theorem witness_ReadyChangesOnlyByRxbAndClrf_falls :
    ∃ t, step { scripted [.clrf] [.seq] [] with ready := true } = .next t ∧ t.ready = false := ⟨_, rfl, rfl⟩

theorem witness_StepKeepsConfigAndExtendsTrace : ∃ t, step inDatWrite = .next t := ⟨_, rfl⟩

theorem witness_ResetValues :
    { demoCfg with top := .autonomous }.top = .autonomous ∧ demoCfg.top = .hosted := ⟨rfl, rfl⟩

/-- An autonomous block right after reset with the reads `rs` to come and `k` turns for the sequencer. -/
def booting (c : Config) (rs : List Read) (k : Nat) : State :=
  { State.resetWith c with
    samples := ⟨rs.flatMap Read.bytes ++ [0x80], 0⟩, turns := ⟨List.replicate k .seq ++ [.rx 0x41], 0⟩ }

def autoCfg : Config := { demoCfg with top := .autonomous }

theorem witness_FirstMicroStepIsInit :
    autoCfg.top = .autonomous ∧
    { State.resetWith autoCfg with turns := ⟨[.seq], 0⟩ } =
      { State.resetWith autoCfg with turns := { State.resetWith autoCfg with turns := ⟨[.seq], 0⟩ }.turns } ∧
    { State.resetWith autoCfg with turns := ⟨[.seq], 0⟩ }.nextTurn = .seq ∧
    { State.resetWith { autoCfg with tInit0 := some 20 } with turns := ⟨[.seq], 0⟩ }.nextTurn = .seq :=
  ⟨rfl, rfl, rfl, rfl⟩

theorem witness_BootRunsInitThenDisp :
    autoCfg.top = .autonomous ∧
    booting autoCfg [quick, slow, quick, quick] (initTurns autoCfg [quick, slow, quick, quick]) =
      { State.resetWith autoCfg with
        turns := ⟨List.replicate (initTurns autoCfg [quick, slow, quick, quick]) .seq ++ [.rx 0x41], 0⟩
        samples := ⟨[quick, slow, quick, quick].flatMap Read.bytes ++ [0x80], 0⟩ } ∧
    (booting autoCfg [quick, slow, quick, quick] (initTurns autoCfg [quick, slow, quick, quick])).Reads
      [quick, slow, quick, quick] [0x80] ∧
    (booting autoCfg [quick, slow, quick, quick] (initTurns autoCfg [quick, slow, quick, quick])).SeqTurns
      (initTurns autoCfg [quick, slow, quick, quick]) [.rx 0x41] :=
  ⟨rfl, rfl, ⟨all_live _ rfl, rfl⟩, rfl⟩

/-- MAIN's loop with four bytes about to arrive. -/
def packetComing : State :=
  { looping with
    samples := ⟨rndr14.flatMap Read.bytes, 0⟩
    txhw := ⟨[1, 0, 2, 0].flatMap pollBits, 0⟩
    turns := ⟨[.rx 0x41, .rx 0x42, .rx 0x43, .rx 0x44] ++
      List.replicate (1 + rndrTurns rndr14 + xpktTurns [1, 0, 2, 0] + 1) .seq ++ [.seq], 0⟩ }

theorem witness_RoundTripEcho :
    packetComing.seq = [.disp .l0, .main .m1] ∧ packetComing.lcdIn = none ∧ packetComing.rxidx = 0 ∧
    packetComing.ready = false ∧ label8.length = 8 ∧
    packetComing.Reads (slow :: label8 ++ [quick, slow, quick, quick, quick]) [] ∧
    packetComing.Polls [1, 0, 2, 0] [] ∧
    packetComing.turns.given = [.rx 0x41, .rx 0x42, .rx 0x43, .rx 0x44] ++
      List.replicate
        (1 + rndrTurns (slow :: label8 ++ [quick, slow, quick, quick, quick]) + xpktTurns [1, 0, 2, 0] + 1) .seq ++
      [.seq] :=
  ⟨rfl, rfl, rfl, rfl, rfl, ⟨all_live _ rfl, by simp [packetComing, rndr14]⟩,
    by simp [State.Polls, packetComing], rfl⟩

theorem witness_InvHoldsAtReset : demoCfg.Wf ∧ { demoCfg with intw := 4, lcdCols := 12 }.Wf := by decide

theorem witness_StepKeepsInv : inCmdWrite.Inv ∧ ∃ t, step inCmdWrite = .next t := ⟨inCmdWrite_inv, _, rfl⟩

/-- A told state with a write on its way to the LCD. -/
def toldState : State :=
  { State.resetWith demoCfg with
    dbo := 0x30, lcdIn := some 0x030, turns := ⟨[.seq], 0⟩
    trace := [.rs false, .rw false, .bus 0x30, .en true, .delay 1, .en false] }

theorem witness_StepKeepsTold : toldState.Told ∧ ∃ t, step toldState = .next t := ⟨⟨rfl, rfl⟩, _, rfl⟩

theorem witness_LinesHoldDuringPulse :
    inReadWait.Inv ∧ inReadWait.e = true ∧ (∃ t, step inReadWait = .next t) ∧
    (scripted [.cmdi .c3 0x30] [.seq] []).e = false ∧
    ∃ t, step (scripted [.cmdi .c3 0x30] [.seq] []) = .next t ∧ t.e = true :=
  ⟨inReadWait_inv, rfl, ⟨_, rfl⟩, rfl, _, rfl, rfl⟩

theorem witness_LineCombinations :
    inCmdWrite.Inv ∧ inCmdWrite.e = true ∧ inCmdWrite.rw = false ∧
    inReadWait.Inv ∧ inReadWait.e = true ∧ inReadWait.rw = true ∧ demo.Inv ∧ demo.seq = [] :=
  ⟨inCmdWrite_inv, rfl, rfl, inReadWait_inv, rfl, rfl, demo_inv, rfl⟩

theorem witness_GatedWritesFollowReadyStatus :
    inCmdWrite.Inv ∧ inCmdWrite.lcdIn = none ∧ inCmdWrite.nextTurn = .seq ∧ (∃ t, step inCmdWrite = .next t) ∧
    inCmdWrite.seq = .cmd .k6 0x01 :: [.rndr .d0] ∧
    inDatWrite.Inv ∧ inDatWrite.lcdIn = none ∧ inDatWrite.nextTurn = .seq ∧ (∃ t, step inDatWrite = .next t) ∧
    inDatWrite.seq = .dat .t6 0x37 :: [.wint .n2] :=
  ⟨inCmdWrite_inv, rfl, rfl, ⟨_, rfl⟩, rfl, inDatWrite_inv, rfl, rfl, ⟨_, rfl⟩, rfl⟩

theorem witness_StuckLcdHangsReadyWait :
    let s := { scripted [.rdyw .w3, .cmd .k0 0x01] (List.replicate (4 * 2) .seq ++ []) ([0x80, 0xFF] ++ [0x00]) with
      rw := true, dir := .inp }
    s.seq = .rdyw .w3 :: [.cmd .k0 0x01] ∧ s.lcdIn = none ∧ s.rw = true ∧ s.e = false ∧
    (∀ b ∈ ([0x80, 0xFF] : List Byte), busyFlag b = true) ∧ s.samples.given = [0x80, 0xFF] ++ [0x00] ∧
    s.SeqTurns (4 * ([0x80, 0xFF] : List Byte).length) [] :=
  ⟨rfl, rfl, rfl, rfl, by decide, rfl, rfl⟩

theorem witness_NeverReadyHangsTransmit :
    let s := { scripted [.txb .x0 0x41] (List.replicate 3 .seq ++ []) [] with txhw := ⟨List.replicate 3 false ++ [], 0⟩ }
    let u := { s with seq := [.xpkt .e0, .disp .l2] }
    s.seq = .txb .x0 0x41 :: [] ∧ s.lcdIn = none ∧ s.txhw.given = List.replicate 3 false ++ [] ∧ s.SeqTurns 3 [] ∧
    u.seq = .xpkt .e0 :: [.disp .l2] ∧ u.lcdIn = none ∧ u.txhw.given = List.replicate 3 false ++ [] ∧
    u.SeqTurns 3 [] := ⟨rfl, rfl, rfl, rfl, rfl, rfl, rfl, rfl⟩

end Sys2Proof.Tests
end

section
/-! SUPPORT. What a step can do, by the definitions that say it: the micro-step of the frame on top, the request an
instruction is, and the transaction taken in. Every invariant of a step is then a case analysis over these. -/

namespace Sys2Proof.Machine

/-! ## The micro-step of the top frame -/

/-- The micro-step that the frame `f` on top of `rest` stands for; MAIN has none (R95). -/
def frameStep (f : Frame) (rest : List Frame) (s : State) : State :=
  match f with
  | .rdyw l => rdywMicro l rest s
  | .cmdi l c => cmdiMicro l c rest s
  | .cmd l c => cmdMicro l c rest s
  | .dat l d => datMicro l d rest s
  | .init l => initMicro l rest s
  | .wint _ => wintMicro rest s
  | .rndr l => rndrMicro l rest s
  | .txb l b => txbMicro l b rest s
  | .xpkt l => xpktMicro l rest s
  | .clrf => clrfMicro rest s
  | .disp l => dispMicro l rest s
  | .main _ => s

/-- The instruction of the top frame takes that frame's micro-step. -/
theorem exec_frameInstr {s : State} {f : Frame} {rest : List Frame} {n : Nat} {i : Instr} (hs : s.seq = f :: rest)
    (hi : frameInstr n f = some i) : exec i s = .next (frameStep f rest s) := by
  cases f <;> cases hi
  case rdyw => simp only [exec, execRdyw, hs, frameStep]
  case cmdi => simp only [exec, execCmdi, hs, frameStep, if_true]
  case cmd => simp only [exec, execCmd, hs, frameStep, if_true]
  case dat => simp only [exec, execDat, hs, frameStep, if_true]
  case init => simp only [exec, execInit, hs, frameStep]
  case wint => simp only [exec, execWint, hs, frameStep]
  case rndr => simp only [exec, execRndr, hs, frameStep]
  case txb => simp only [exec, execTxb, hs, frameStep, if_true]
  case xpkt => simp only [exec, execXpkt, hs, frameStep]
  case clrf => simp only [exec, execClrf, hs, frameStep]
  case disp => simp only [exec, execDisp, hs, frameStep]

theorem frameStep_of_no_instr {f : Frame} {n : Nat} (hf : frameInstr n f = none) (rest : List Frame) (s : State) :
    frameStep f rest s = s := by
  cases f <;> simp only [frameInstr, reduceCtorEq] at hf
  case main => rfl

/-! ## The request an instruction is -/

/-- The operation that a request for `i` starts, with its call (R82); no other instruction is a request. -/
def requestOf : Instr → Option (OpName × (List Frame → State → State))
  | .rdyw => some (.rdyw, callRdyw)
  | .cmdi c => some (.cmdi, callCmdi c)
  | .cmd c => some (.cmd, callCmd c)
  | .dat d => some (.dat, callDat d)
  | .init => some (.init, callInit)
  | .wint n => some (.wint, callWint n)
  | .rndr => some (.rndr, callRndr)
  | .txb b => some (.txb, callTxb b)
  | .xpkt => some (.xpkt, callXpkt)
  | .clrf => some (.clrf, callClrf)
  | .disp => some (.disp, callDisp)
  | _ => none

/-- An idle sequencer accepts the request (R142). -/
theorem exec_request {s : State} {i : Instr} {op : OpName} {call : List Frame → State → State} (hs : s.seq = [])
    (hr : requestOf i = some (op, call)) : exec i s = .next (s.accept op call) := by
  cases i <;> simp only [requestOf, reduceCtorEq, Option.some.injEq, Prod.mk.injEq] at hr
  all_goals obtain ⟨rfl, rfl⟩ := hr
  case rdyw => simp only [exec, execRdyw, hs]
  case cmdi => simp only [exec, execCmdi, hs]
  case cmd => simp only [exec, execCmd, hs]
  case dat => simp only [exec, execDat, hs]
  case init => simp only [exec, execInit, hs]
  case wint => simp only [exec, execWint, hs]
  case rndr => simp only [exec, execRndr, hs]
  case txb => simp only [exec, execTxb, hs]
  case xpkt => simp only [exec, execXpkt, hs]
  case clrf => simp only [exec, execClrf, hs]
  case disp => simp only [exec, execDisp, hs]

/-- A request word is a request or has a reserved code, which is refused (R82, R92). -/
theorem decodeOpreq_request {intw w : Nat} {i : Instr} (h : decodeOpreq intw w = .ok i) :
    (∃ op call, requestOf i = some (op, call)) ∨ ∃ code, ∀ s, exec i s = .refused (.reservedOpcode code) := by
  unfold decodeOpreq at h
  split at h <;> cases h
  case h_12 | h_13 | h_14 | h_15 | h_16 => exact .inr ⟨_, fun _ => rfl⟩
  all_goals exact .inl ⟨_, _, rfl⟩

/-! ## The transaction taken in -/

/-- The LCD agent settles what waits for it (R116, R158). -/
theorem exec_busWord {s : State} {w : BusWord} {i : Instr} (hl : s.lcdIn = some w)
    (hd : decodeLcdbus w.toNat = .ok i) : exec i s = .next (s.lcdTake fun _ => s.lcdSettled) := by
  simp only [State.lcdSettled, hl, hd]
  unfold decodeLcdbus at hd
  split at hd <;> cases hd <;> rfl

/-! ## The step -/

/-- What a step that answers a next state has done: the LCD agent has settled what waits for it; the receive agent has
stored a byte; or, on the sequencer's turn, the top frame has taken its micro-step, an idle sequencer has accepted a
request, or the block has stayed as it was. MAIN's frame is woken first. -/
theorem step_effect {s t : State} (h : step s = .next t) :
    (∃ w, s.lcdIn = some w ∧ t = s.lcdTake fun _ => s.lcdSettled) ∨
    (s.lcdIn = none ∧ ∃ b, s.nextTurn = .rx b ∧ t = s.takeTurn.storeByte b) ∨
    (s.lcdIn = none ∧ s.nextTurn = .seq ∧
      ((∃ f rest, s.takeTurn.wake.seq = f :: rest ∧ t = frameStep f rest s.takeTurn.wake) ∨
       (s.takeTurn.wake.seq = [] ∧ s.takeTurn.wake.cfg.top = .hosted ∧ ∃ i op call,
          requestOf i = some (op, call) ∧ t = s.takeTurn.wake.takeOffer.accept op call) ∨
       (s.takeTurn.wake.seq = [] ∧ (t = s.takeTurn.wake.takeOffer ∨ t = s.takeTurn.wake)))) := by
  have next_inj {a : State} (ha : (.next a : Host.Outcome State Fault Refusal) = .next t) : t = a := by
    cases ha; rfl
  rcases step_cases h with ⟨w, i, hl, hd, hx⟩ | ⟨hl, b, hb, hx⟩ | ⟨hl, hb, hq⟩
  · exact .inl ⟨w, hl, next_inj (exec_busWord hl hd ▸ hx)⟩
  · exact .inr (.inl ⟨hl, b, hb, next_inj hx⟩)
  · refine .inr (.inr ⟨hl, hb, ?_⟩)
    rcases hq with ⟨f, rest, i, hs, hi, hx⟩ | ⟨f, rest, hs, hi, rfl⟩ | ⟨hs, hc, w, i, -, hd, hx⟩ |
      ⟨hs, -, -, rfl⟩ | ⟨hs, -, rfl⟩
    · exact .inl ⟨f, rest, hs, next_inj (exec_frameInstr hs hi ▸ hx)⟩
    · exact .inl ⟨f, rest, hs, (frameStep_of_no_instr hi rest _).symm⟩
    · rcases decodeOpreq_request hd with ⟨op, call, hr⟩ | ⟨code, hrefused⟩
      · have hexec := exec_request (s := s.takeTurn.wake.takeOffer) hs hr
        exact .inr (.inl ⟨hs, hc, i, op, call, hr, next_inj (hexec ▸ hx)⟩)
      · rw [hrefused] at hx
        cases hx
    · exact .inr (.inr ⟨hs, .inl rfl⟩)
    · exact .inr (.inr ⟨hs, .inr rfl⟩)

end Sys2Proof.Machine
end

section
/-! What a step leaves of the parameters and of the trace (R12, R35). -/

namespace Sys2Proof.Machine

/-- `t` has the parameters of `s` and a trace that goes on from that of `s`. -/
structure State.Extends (t s : State) : Prop where
  cfg   : t.cfg = s.cfg
  trace : s.trace <+: t.trace

theorem State.Extends.trans {s t u : State} (h₁ : u.Extends t) (h₂ : t.Extends s) : u.Extends s :=
  ⟨h₁.cfg.trans h₂.cfg, h₂.trace.trans h₁.trace⟩

theorem State.InternalOf.extends {s t : State} (h : t.InternalOf s) : t.Extends s := by
  obtain ⟨he, hp⟩ := h
  exact ⟨by rw [he], hp⟩

/-- A visible action adds its event. -/
theorem State.Extends.of_event {s t : State} {ev : Event} (hc : t.cfg = s.cfg) (ht : t.trace = s.trace ++ [ev]) :
    t.Extends s := ⟨hc, ht ▸ List.prefix_append _ _⟩

/-- A return that follows a visible action. -/
theorem returnTo_extends (done : OpName) (rest : List Frame) {s t : State} (h : t.Extends s) :
    (returnTo done rest t).Extends s := (returnTo_internal rest done t).extends.trans h

/-! ## Each operation's micro-steps -/

section
variable (rest : List Frame) (s : State)

theorem rdywMicro_extends (l : RdywLbl) : (rdywMicro l rest s).Extends s := by
  cases l
  case w8 => exact returnTo_extends _ _ (.of_event rfl rfl)
  all_goals exact .of_event rfl rfl

theorem cmdiMicro_extends (l : CmdiLbl) (c : Byte) : (cmdiMicro l c rest s).Extends s := by
  cases l
  case c5 => exact returnTo_extends _ _ (.of_event rfl rfl)
  all_goals exact .of_event rfl rfl

theorem cmdMicro_extends (l : CmdLbl) (c : Byte) : (cmdMicro l c rest s).Extends s := by
  cases l
  case k0 => exact (callRdyw_internal _ _).extends
  case k6 => exact returnTo_extends _ _ (.of_event rfl rfl)
  all_goals exact .of_event rfl rfl

theorem datMicro_extends (l : DatLbl) (d : Byte) : (datMicro l d rest s).Extends s := by
  cases l
  case t0 => exact (callRdyw_internal _ _).extends
  case t6 => exact returnTo_extends _ _ (.of_event rfl rfl)
  all_goals exact .of_event rfl rfl

theorem initMicro_extends (l : InitLbl) : (initMicro l rest s).Extends s := by
  cases l
  case i0 =>
    simp only [initMicro]
    split
    · exact .of_event rfl rfl
    · exact (initFirst_internal _ _).extends
  case i6 =>
    simp only [initMicro]
    split
    · exact .of_event rfl rfl
    · exact (initGated_internal _ _).extends
  case i2 | i4 => exact .of_event rfl rfl
  case i1 => exact (initFirst_internal _ _).extends
  case i3 | i5 => exact (callCmdi_internal _ _ _).extends
  case i7 => exact (initGated_internal _ _).extends
  case i8 | i9 | i10 => exact (callCmd_internal _ _ _).extends

theorem wintMicro_extends : (wintMicro rest s).Extends s := by
  unfold wintMicro
  cases h : wintTest rest s with
  | none => exact (returnTo_internal rest .wint s).extends
  | some t => exact (wintTest_internal h).extends

theorem rndrMicro_extends (l : RndrLbl) : (rndrMicro l rest s).Extends s := by
  cases l
  case d2a => exact .of_event rfl rfl
  case d0 | d3 => exact (callCmd_internal _ _ _).extends
  case d1 | d2b => exact (callDat_internal _ _ _).extends

theorem txbMicro_extends (l : TxbLbl) (b : Byte) : (txbMicro l b rest s).Extends s := by
  cases l
  case x0 => exact .of_event rfl rfl
  case x1 => exact returnTo_extends _ _ (.of_event rfl rfl)

theorem xpktMicro_extends (l : XpktLbl) : (xpktMicro l rest s).Extends s := by
  cases l
  case e0 | e1 => exact .of_event rfl rfl
  case e2 =>
    simp only [xpktMicro]
    split
    · exact returnTo_extends _ _ (.of_event rfl rfl)
    · exact .of_event rfl rfl

theorem dispMicro_extends (l : DispLbl) : (dispMicro l rest s).Extends s := by
  cases l
  case l0 =>
    simp only [dispMicro]
    split
    · exact .of_event rfl rfl
    · exact returnTo_extends _ _ (.of_event rfl rfl)
  case l1 => exact (callRndr_internal _ _).extends
  case l2 => exact (callXpkt_internal _ _).extends
  case l3 => exact (callClrf_internal _ _).extends

theorem frameStep_extends (f : Frame) : (frameStep f rest s).Extends s := by
  cases f with
  | rdyw l => exact rdywMicro_extends rest s l
  | cmdi l c => exact cmdiMicro_extends rest s l c
  | cmd l c => exact cmdMicro_extends rest s l c
  | dat l d => exact datMicro_extends rest s l d
  | init l => exact initMicro_extends rest s l
  | wint l => exact wintMicro_extends rest s
  | rndr l => exact rndrMicro_extends rest s l
  | txb l b => exact txbMicro_extends rest s l b
  | xpkt l => exact xpktMicro_extends rest s l
  | clrf => exact returnTo_extends _ _ (.of_event rfl rfl)
  | disp l => exact dispMicro_extends rest s l
  | main l => exact ⟨rfl, List.prefix_refl _⟩

variable {rest s}

/-- A request's call is internal computation (R11). -/
theorem requestOf_internal {i : Instr} {op : OpName} {call : List Frame → State → State}
    (hr : requestOf i = some (op, call)) : (call rest s).InternalOf s := by
  cases i <;> simp only [requestOf, reduceCtorEq, Option.some.injEq, Prod.mk.injEq] at hr
  all_goals obtain ⟨rfl, rfl⟩ := hr
  case rdyw => exact callRdyw_internal s rest
  case cmdi c => exact callCmdi_internal s rest c
  case cmd c => exact callCmd_internal s rest c
  case dat d => exact callDat_internal s rest d
  case init => exact callInit_internal s rest
  case wint n => exact callWint_internal n rest s
  case rndr => exact callRndr_internal s rest
  case txb b => exact callTxb_internal s rest b
  case xpkt => exact callXpkt_internal s rest
  case clrf => exact callClrf_internal s rest
  case disp => exact callDisp_internal s rest

theorem accept_internal {i : Instr} {op : OpName} {call : List Frame → State → State}
    (hr : requestOf i = some (op, call)) : (s.accept op call).InternalOf s :=
  (requestOf_internal hr).trans (s.emit_internal _)

end

/-- The sequencer's turn, MAIN woken if need be. -/
theorem State.wake_takeTurn_extends (s : State) : s.takeTurn.wake.Extends s :=
  s.takeTurn.wake_internal.extends.trans ⟨rfl, List.prefix_refl _⟩

theorem step_extends {s t : State} (h : step s = .next t) : t.Extends s := by
  rcases step_effect h with ⟨w, -, rfl⟩ | ⟨-, b, -, rfl⟩ | ⟨-, -, hq⟩
  · exact ⟨rfl, List.prefix_refl _⟩
  · exact .of_event rfl rfl
  · refine .trans ?_ s.wake_takeTurn_extends
    rcases hq with ⟨f, rest, -, rfl⟩ | ⟨-, -, i, op, call, hr, rfl⟩ | ⟨-, rfl | rfl⟩
    · exact frameStep_extends rest _ f
    · exact (accept_internal hr).extends.trans ⟨rfl, List.prefix_refl _⟩
    · exact ⟨rfl, List.prefix_refl _⟩
    · exact ⟨rfl, List.prefix_refl _⟩

/-- Settles O47, from what each effect of a step does to the parameters and the trace. -/
theorem stepKeepsConfigAndExtendsTrace : Obligations.StepKeepsConfigAndExtendsTrace := by
  intro s t h
  obtain ⟨hc, ht⟩ := step_extends h
  exact ⟨hc, ht⟩

end Sys2Proof.Machine
end

section
/-! The instruction a step runs (R11, R142, R165), and the invariant at reset (R36, R38). -/

namespace Sys2Proof.Machine

/-! ## What is fetched -/

theorem step_of_run {s t : State} {i : Instr} (h : fetch s = .run i t) : step s = exec i t := by
  simp only [step, h]

theorem fetchWord_of_decode {p : PortWord} {s : State} {i : Instr} (h : decode s.cfg.intw p = .ok i) :
    fetchWord p s = .run i s := by simp only [fetchWord, h]

theorem fetch_busWord {s : State} {w : BusWord} {i : Instr} (hl : s.lcdIn = some w)
    (hd : decode s.cfg.intw ⟨.lcdbus, w.toNat⟩ = .ok i) : fetch s = .run i s := by
  simp only [fetch, hl, fetchWord_of_decode hd]

theorem fetch_byte {s : State} {b : Byte} (hl : s.lcdIn = none) (hb : s.nextTurn = .rx b) :
    fetch s = .run (.rxb b) s.takeTurn := by
  simp only [fetch, hl, hb]
  exact fetchWord_of_decode (decodeRxev_byte b)

theorem fetch_seq {s : State} (hl : s.lcdIn = none) (hb : s.nextTurn = .seq) : fetch s = fetchSeq s.takeTurn := by
  simp only [fetch, hl, hb]

theorem fetchSeq_frame {s : State} {f : Frame} {rest : List Frame} {i : Instr} (hs : s.seq = f :: rest)
    (hi : frameInstr s.n f = some i) : fetchSeq s = .run i s := by
  simp only [fetchSeq, s.wake_of_frameInstr hs hi, hs, hi]

theorem fetchSeq_request {s : State} {w : Nat} {i : Instr} (hs : s.seq = []) (hc : s.cfg.top = .hosted)
    (ho : s.nextOffer = some w) (hd : decode s.cfg.intw (portRequest s.cfg.intw w) = .ok i) :
    fetchSeq s = .run i s.takeOffer := by
  simp only [fetchSeq, s.wake_of_nil hs, hs, fetchRequest, hc, ho]
  exact fetchWord_of_decode hd

/-- Settles O5: what is fetched, agent by agent. -/
theorem stepRunsDecodedInstruction : Obligations.StepRunsDecodedInstruction := by
  intro s i
  refine ⟨?transaction, ?byte, ?frame, ?request⟩
  case transaction => exact fun w hl hd => step_of_run (fetch_busWord hl hd)
  case byte => exact fun hl b hb => step_of_run (fetch_byte hl hb)
  case frame =>
    intro hl hb f rest hs hi
    exact step_of_run ((fetch_seq hl hb).trans (fetchSeq_frame (s := s.takeTurn) hs hi))
  case request =>
    intro hl hb hs hc w ho hd
    exact step_of_run ((fetch_seq hl hb).trans (fetchSeq_request (s := s.takeTurn) hs hc ho hd))

/-! ## The invariant at reset -/

/-- Settles O52: in either build nothing waits for the LCD, the lines rest, and the stack is empty or MAIN's alone. -/
theorem invHoldsAtReset : Obligations.InvHoldsAtReset := by
  intro c hc
  have hn : (State.resetWith c).n < 2 ^ (State.resetWith c).cfg.intw := Nat.mod_lt _ (Nat.two_pow_pos _)
  obtain ⟨top, tPulse, tInit1, tInit2, tInit0, tInit3, intw, lcdCols⟩ := c
  cases top with
  | autonomous => exact ⟨hc, hn, rfl, rfl, rfl, rfl, rfl, rfl⟩
  | hosted => exact ⟨hc, hn, rfl, rfl, rfl, rfl, rfl, rfl⟩

end Sys2Proof.Machine
end

section
/-! The stack of frames (R32): what may stand on it, and when that depends on the registers. -/

namespace Sys2Proof.Machine

/-- The frames `fs` are a stack of `s`: each stands on the one that called it, with MAIN at the bottom exactly in an
autonomous build. -/
structure State.Stands (s : State) (fs : List Frame) : Prop where
  calls  : s.callsFit fs = true
  bottom : bottomFits s.cfg.top fs = true

/-! ## Call by call -/

@[simp] theorem bottomFits_cons_cons (top : Top) (f g : Frame) (rest : List Frame) :
    bottomFits top (f :: g :: rest) = bottomFits top (g :: rest) := by cases f <;> rfl

theorem State.Stands.push {s : State} {f g : Frame} {rest : List Frame} (h : s.Stands (g :: rest))
    (hc : s.callFits f g = true) : s.Stands (f :: g :: rest) :=
  ⟨by simp only [State.callsFit, hc, h.calls, Bool.and_self], by simpa using h.bottom⟩

theorem State.Stands.pop {s : State} {f g : Frame} {rest : List Frame} (h : s.Stands (f :: g :: rest)) :
    s.callFits f g = true ∧ s.Stands (g :: rest) := by
  obtain ⟨hc, hb⟩ := h
  simp only [State.callsFit, Bool.and_eq_true] at hc
  exact ⟨hc.1, hc.2, by simpa using hb⟩

/-- The frame at the first label of its operation. -/
def Frame.entry : Frame → Frame
  | .rdyw _ => .rdyw .w0
  | .cmdi _ v => .cmdi .c0 v
  | .cmd _ v => .cmd .k0 v
  | .dat _ v => .dat .t0 v
  | .init _ => .init .i0
  | .wint _ => .wint .n1
  | .rndr _ => .rndr .d0
  | .txb _ v => .txb .x0 v
  | .xpkt _ => .xpkt .e0
  | .clrf => .clrf
  | .disp _ => .disp .l0
  | .main _ => .main .m0

theorem callFits_entry (s : State) (f g : Frame) : s.callFits f.entry g = s.callFits f g := by
  cases g
  case rdyw l | cmdi l _ | cmd l _ | dat l _ | init l | wint l | rndr l | txb l _ | xpkt l | disp l | main l =>
    cases l <;> cases f <;> rfl
  case clrf => cases f <;> rfl

theorem bottomFits_entry (top : Top) (f : Frame) : bottomFits top [f.entry] = bottomFits top [f] := by
  cases f <;> rfl

/-- The frame on top may move to another label of its operation, since neither what called it nor the bottom of the
stack depends on the label. -/
theorem State.Stands.relabel {s : State} {f : Frame} {rest : List Frame} (h : s.Stands (f :: rest)) (f' : Frame)
    (hf : f.entry = f'.entry) : s.Stands (f' :: rest) := by
  cases rest with
  | nil => exact ⟨rfl, by rw [← bottomFits_entry, ← hf, bottomFits_entry]; exact h.bottom⟩
  | cons g rest =>
    obtain ⟨hg, hrest⟩ := h.pop
    exact hrest.push (by rw [← callFits_entry, ← hf, callFits_entry]; exact hg)

/-- An operation called by nothing is the whole stack of a hosted build. -/
theorem State.Stands.single {s : State} {f : Frame} (ht : s.cfg.top = .hosted) (hf : ∀ l, f ≠ .main l) :
    s.Stands [f] := by
  refine ⟨rfl, ?_⟩
  cases f <;> simp_all [bottomFits]

theorem State.Stands.hosted_of_single {s : State} {f : Frame} (h : s.Stands [f]) (hf : ∀ l, f ≠ .main l) :
    s.cfg.top = .hosted := by
  have hb := h.bottom
  cases f <;> simp_all [bottomFits]

/-! ## The registers a stack depends on -/

/-- What a stack depends on is `I` and `N`. -/
theorem State.Stands.congr {s t : State} {fs : List Frame} (h : s.Stands fs) (hc : t.cfg = s.cfg) (hi : t.i = s.i)
    (hn : t.n = s.n) : t.Stands fs := by
  have hcall : ∀ f g, t.callFits f g = s.callFits f g := by
    intro f g
    simp only [State.callFits, hi, hn]
  have hcalls : t.callsFit fs = s.callsFit fs := by
    induction fs with
    | nil => rfl
    | cons f fs ih =>
      cases fs with
      | nil => rfl
      | cons g fs => simp only [State.callsFit, hcall, ih h.pop.2]
  exact ⟨hcalls ▸ h.calls, hc ▸ h.bottom⟩

/-- DAT stands on a loop that counts in `I` or `N`, and RDYW may stand on DAT; no other frame has a loop's registers
to fit. -/
def Frame.loopFree : Frame → Bool
  | .rdyw _ => false
  | .dat _ _ => false
  | _ => true

theorem loopFree_of_callFits {s : State} {f g : Frame} (hf : f.loopFree = true) (h : s.callFits f g = true) :
    g.loopFree = true := by
  unfold State.callFits at h
  split at h <;> simp_all [Frame.loopFree]

theorem callFits_of_loopFree {s : State} {f g : Frame} (hf : f.loopFree = true) (h : s.callFits f g = true)
    (t : State) : t.callFits f g = true := by
  unfold State.callFits at h
  split at h <;> simp_all [Frame.loopFree, State.callFits]

/-- Beneath a frame other than RDYW's and DAT's the registers are free. -/
theorem State.Stands.of_loopFree {s : State} {f : Frame} {rest : List Frame} (h : s.Stands (f :: rest))
    (hf : f.loopFree = true) {t : State} (hc : t.cfg = s.cfg) : t.Stands (f :: rest) := by
  induction rest generalizing f with
  | nil => exact ⟨rfl, hc ▸ h.bottom⟩
  | cons g rest ih =>
    obtain ⟨hg, hrest⟩ := h.pop
    exact (ih hrest (loopFree_of_callFits hf hg)).push (callFits_of_loopFree hf hg t)

end Sys2Proof.Machine
end

section
/-! Between transactions (R38): the lines rest, and what the sequencer then does by internal computation, calls and
returns, ends in a state with the invariant. -/

namespace Sys2Proof.Machine

/-- `s` with its stack left out of account: no transaction is under way. -/
structure State.Between (s : State) : Prop where
  cfgWf : s.cfg.Wf
  nFits : s.n < 2 ^ s.cfg.intw
  rests : s.resting = true
  word  : s.wordFits = true

section
variable {s : State} (h : s.Between)
include h

theorem State.Between.emit (ev : Event) : (s.emit ev).Between := ⟨h.cfgWf, h.nFits, h.rests, h.word⟩
theorem State.Between.setV (b : Byte) : (s.setV b).Between := ⟨h.cfgWf, h.nFits, h.rests, h.word⟩
theorem State.Between.setI (i : BitVec 4) : (s.setI i).Between := ⟨h.cfgWf, h.nFits, h.rests, h.word⟩
theorem State.Between.setN (n : Nat) : (s.setN n).Between :=
  ⟨h.cfgWf, Nat.mod_lt _ (Nat.two_pow_pos _), h.rests, h.word⟩
theorem State.Between.readPkt (i : BitVec 2) : (s.readPkt i).Between := ⟨h.cfgWf, h.nFits, h.rests, h.word⟩
theorem State.Between.pollTx : s.pollTx.Between := ⟨h.cfgWf, h.nFits, h.rests, h.word⟩
theorem State.Between.clearFlag : s.clearFlag.Between := ⟨h.cfgWf, h.nFits, h.rests, h.word⟩

end

/-! ## Where control can be between transactions -/

/-- The labels at which a frame on top is at a micro-step with the lines at rest and no ready-wait behind it. -/
def State.startsAt (s : State) : Frame → Bool
  | .rdyw .w0 => true
  | .cmdi .c0 _ => true
  | .init .i0 => s.cfg.tInit0.isSome
  | .init .i2 => true
  | .init .i4 => true
  | .init .i6 => s.cfg.tInit3.isSome
  | .rndr .d2a => decide (s.i.toNat < 4)
  | .txb _ _ => true
  | .xpkt _ => decide (s.i.toNat < 4)
  | .clrf => true
  | .disp .l0 => true
  | _ => false

@[simp] theorem State.writing_zero (s : State) (r : Bool) (b : Byte) : s.writing r b 0 = s.resting := by
  simp [State.writing, State.resting]

section
variable {s : State} {f : Frame} (rest : List Frame) (hf : s.startsAt f = true)
include hf

theorem linesFit_of_startsAt : (s.goto f rest).linesFit = s.resting := by
  unfold State.startsAt at hf
  split at hf
  case h_2 => exact s.writing_zero _ _
  case h_12 => cases hf
  all_goals rfl

theorem readyFit_of_startsAt : (s.goto f rest).readyFit = true := by
  unfold State.startsAt at hf
  split at hf
  case h_12 => cases hf
  all_goals rfl

theorem topFits_of_startsAt : (s.goto f rest).topFits = true := by
  unfold State.startsAt at hf
  split at hf
  case h_12 => cases hf
  all_goals exact hf

end

/-- Control at a label that finds the lines at rest. -/
theorem State.Between.goto_of_rests {s : State} {f : Frame} {rest : List Frame} (h : s.Between)
    (hs : s.Stands (f :: rest)) (lines : (s.goto f rest).linesFit = s.resting)
    (ready : (s.goto f rest).readyFit = true) (top : (s.goto f rest).topFits = true) : (s.goto f rest).Inv := by
  obtain ⟨hc, hb⟩ := hs.congr (t := s.goto f rest) rfl rfl rfl
  exact ⟨h.cfgWf, h.nFits, lines.trans h.rests, ready, hc, top, hb, h.word⟩

/-- Control at a label where an operation starts or goes on. -/
theorem State.Between.goto {s : State} {f : Frame} {rest : List Frame} (h : s.Between) (hs : s.Stands (f :: rest))
    (hf : s.startsAt f = true) : (s.goto f rest).Inv :=
  h.goto_of_rests hs (linesFit_of_startsAt rest hf) (readyFit_of_startsAt rest hf) (topFits_of_startsAt rest hf)

/-- An idle sequencer of a hosted build between transactions. -/
theorem State.Between.idle {s : State} (h : s.Between) (ht : s.cfg.top = .hosted) : (s.setSeq []).Inv :=
  ⟨h.cfgWf, h.nFits, h.rests, rfl, rfl, rfl, by simp [bottomFits, ht], h.word⟩

/-! ## Calls -/

section
variable {s : State} {rest : List Frame} (h : s.Between)
include h

theorem callRdyw_inv (hs : s.Stands (.rdyw .w0 :: rest)) : (callRdyw rest s).Inv := h.goto hs rfl

theorem callCmdi_inv {c : Byte} (hs : s.Stands (.cmdi .c0 c :: rest)) : (callCmdi c rest s).Inv :=
  (h.setV c).goto (hs.congr rfl rfl rfl) rfl

theorem callCmd_inv {c : Byte} (hs : s.Stands (.cmd .k0 c :: rest)) : (callCmd c rest s).Inv :=
  callRdyw_inv (h.setV c) (.push (hs.congr rfl rfl rfl) rfl)

theorem callDat_inv {d : Byte} (hs : s.Stands (.dat .t0 d :: rest)) : (callDat d rest s).Inv :=
  callRdyw_inv (h.setV d) (.push (hs.congr rfl rfl rfl) rfl)

theorem initFirst_inv (hs : s.Stands (.init .i1 :: rest)) : (initFirst rest s).Inv := callCmdi_inv h (hs.push rfl)

theorem initGated_inv (hs : s.Stands (.init .i7 :: rest)) : (initGated rest s).Inv := callCmd_inv h (hs.push rfl)

theorem callInit_inv (hs : s.Stands (.init .i0 :: rest)) : (callInit rest s).Inv := by
  unfold callInit
  split
  · next t ht => exact h.goto hs (by simp only [State.startsAt, ht, Option.isSome_some])
  · exact initFirst_inv h (hs.relabel (.init .i1) rfl)

theorem callRndr_inv (hs : s.Stands (.rndr .d0 :: rest)) : (callRndr rest s).Inv := callCmd_inv h (hs.push rfl)

theorem callTxb_inv {b : Byte} (hs : s.Stands (.txb .x0 b :: rest)) : (callTxb b rest s).Inv :=
  (h.setV b).goto (hs.congr rfl rfl rfl) rfl

theorem callXpkt_inv (hs : s.Stands (.xpkt .e0 :: rest)) : (callXpkt rest s).Inv :=
  (h.setI 0).goto (hs.of_loopFree rfl rfl) rfl

theorem callClrf_inv (hs : s.Stands (.clrf :: rest)) : (callClrf rest s).Inv := h.goto hs rfl

theorem callDisp_inv (hs : s.Stands (.disp .l0 :: rest)) : (callDisp rest s).Inv := h.goto hs rfl

theorem mainStart_inv (hs : s.Stands (.main .m0 :: rest)) : (mainStart rest s).Inv :=
  callInit_inv (h.emit _) (.push (hs.congr rfl rfl rfl) rfl)

theorem mainNext_inv {l : MainLbl} (hs : s.Stands (.main l :: rest)) : (mainNext rest s).Inv :=
  callDisp_inv (h.emit _) (.push ((hs.relabel (.main .m1) rfl).congr rfl rfl rfl) rfl)

end

/-! ## Returns: `f` is the frame that returns, over the frames it returns to -/

section
variable {s t : State} {f : Frame} {rest : List Frame} (h : s.Between)
include h

theorem initAfter_inv {l : InitLbl} (hs : s.Stands (f :: .init l :: rest)) (ht : initAfter l rest s = some t) :
    t.Inv := by
  obtain ⟨hc, hs⟩ := hs.pop
  have stands (l' : InitLbl) : s.Stands (.init l' :: rest) := hs.relabel (.init l') rfl
  cases l <;> simp only [initAfter, Option.some.injEq, reduceCtorEq] at ht
  case i0 | i6 => cases f <;> cases hc
  case i5 =>
    split at ht <;> cases ht
    · next d hd => exact h.goto (stands .i6) (by simp only [State.startsAt, hd, Option.isSome_some])
    · exact initGated_inv h (stands .i7)
  all_goals subst ht
  case i1 | i2 => exact h.goto (stands .i2) rfl
  case i3 | i4 => exact h.goto (stands .i4) rfl
  case i7 => exact callCmd_inv h ((stands .i8).push rfl)
  case i8 => exact callCmd_inv h ((stands .i9).push rfl)
  case i9 => exact callCmd_inv h ((stands .i10).push rfl)

theorem wintTest_inv {l : WintLbl} (hs : s.Stands (.wint l :: rest)) (ht : wintTest rest s = some t) : t.Inv := by
  unfold wintTest at ht
  split at ht <;> cases ht
  next hn =>
    have hs : s.Stands (.wint .n2 :: rest) := hs.relabel (.wint .n2) rfl
    exact callDat_inv h (hs.push (by simp [State.callFits, hn]))

theorem rndrAfter_inv {l : RndrLbl} (hs : s.Stands (f :: .rndr l :: rest)) (ht : rndrAfter l rest s = some t) :
    t.Inv := by
  obtain ⟨hc, hs⟩ := hs.pop
  have stands (l' : RndrLbl) (i : BitVec 4) : (s.setI i).Stands (.rndr l' :: rest) :=
    (hs.relabel (.rndr l') rfl).of_loopFree rfl rfl
  cases l <;> simp only [rndrAfter, Option.some.injEq, reduceCtorEq] at ht
  case d0 =>
    subst ht
    exact callDat_inv (h.setI 0) ((stands .d1 0).push rfl)
  case d1 =>
    have hi : s.i.toNat < 8 := by cases f <;> simp_all [State.callFits]
    split at ht <;> cases ht
    · exact (h.setI 0).goto (stands .d2a 0) rfl
    · next h7 =>
      have hlt : (s.i + 1).toNat < 8 := by bv_omega
      exact callDat_inv (h.setI _) ((stands .d1 _).push (by simpa [State.callFits] using hlt))
  case d2a => cases f <;> cases hc
  case d2b =>
    have hi : s.i.toNat < 4 := by cases f <;> simp_all [State.callFits]
    split at ht <;> cases ht
    · exact callCmd_inv h ((hs.relabel (.rndr .d3) rfl).push rfl)
    · next h3 =>
      have hlt : (s.i + 1).toNat < 4 := by bv_omega
      exact (h.setI _).goto (stands .d2a _) (by simpa [State.startsAt] using hlt)

theorem dispAfter_inv {l : DispLbl} (hs : s.Stands (.disp l :: rest)) (ht : dispAfter l rest s = some t) : t.Inv := by
  have stands (l' : DispLbl) : s.Stands (.disp l' :: rest) := hs.relabel (.disp l') rfl
  cases l <;> simp only [dispAfter, Option.some.injEq, reduceCtorEq] at ht
  all_goals subst ht
  case l0 => exact callDisp_inv h (stands .l0)
  case l1 => exact callXpkt_inv h ((stands .l2).push rfl)
  case l2 => exact callClrf_inv h ((stands .l3).push rfl)

end

/-- An operation whose return leaves no write gated: any but RDYW. MAIN does not return. -/
def Frame.returns : Frame → Bool
  | .rdyw _ => false
  | .main _ => false
  | _ => true

theorem Frame.ne_main_of_returns {f : Frame} (hf : f.returns = true) (l : MainLbl) : f ≠ .main l := by
  rintro rfl
  cases hf

/-- A return of `f` to whatever called it. -/
theorem returnTo_inv {f : Frame} {rest : List Frame} (hf : f.returns = true) (done : OpName) {s : State}
    (h : s.Between) (hs : s.Stands (f :: rest)) : (returnTo done rest s).Inv := by
  induction rest generalizing f done s with
  | nil => exact (h.emit _).idle (hs.hosted_of_single (Frame.ne_main_of_returns hf))
  | cons g rest ih =>
    obtain ⟨hc, hrest⟩ := hs.pop
    cases g with
    | main l => exact mainNext_inv (h.emit _) (hrest.congr rfl rfl rfl)
    | init l =>
      cases ha : initAfter l rest s with
      | none => simpa [returnTo, ha] using ih rfl .init h hrest
      | some t => simpa [returnTo, ha] using initAfter_inv h hs ha
    | wint l =>
      have hn : s.shrinkN.Between := h.setN _
      have hrest : s.shrinkN.Stands (.wint l :: rest) := hrest.of_loopFree rfl rfl
      cases ha : wintTest rest s.shrinkN with
      | none => simpa [returnTo, ha] using ih rfl .wint hn hrest
      | some t => simpa [returnTo, ha] using wintTest_inv hn hrest ha
    | rndr l =>
      cases ha : rndrAfter l rest s with
      | none => simpa [returnTo, ha] using ih rfl .rndr h hrest
      | some t => simpa [returnTo, ha] using rndrAfter_inv h hs ha
    | disp l =>
      cases ha : dispAfter l rest s with
      | none => simpa [returnTo, ha] using ih rfl .disp h hrest
      | some t => simpa [returnTo, ha] using dispAfter_inv h hrest ha
    | cmd l v | dat l v | rdyw l | cmdi l v | txb l v | xpkt l | clrf => cases f <;> cases hf <;> cases hc

theorem callWint_inv {s : State} {rest : List Frame} {n : Nat} (h : s.Between) (hs : s.Stands (.wint .n1 :: rest)) :
    (callWint n rest s).Inv := by
  have hs : (s.setN n).Stands (.wint .n1 :: rest) := hs.of_loopFree rfl rfl
  unfold callWint
  cases ht : wintTest rest (s.setN n) with
  | none => exact returnTo_inv rfl .wint (h.setN n) hs
  | some t => exact wintTest_inv (h.setN n) hs ht

/-- A request that an idle hosted sequencer accepts. -/
theorem requestOf_inv {i : Instr} {op : OpName} {call : List Frame → State → State} {s : State}
    (hr : requestOf i = some (op, call)) (h : s.Between) (ht : s.cfg.top = .hosted) : (call [] s).Inv := by
  cases i <;> simp only [requestOf, reduceCtorEq, Option.some.injEq, Prod.mk.injEq] at hr
  all_goals obtain ⟨rfl, rfl⟩ := hr
  case rdyw => exact callRdyw_inv h (.single ht nofun)
  case cmdi => exact callCmdi_inv h (.single ht nofun)
  case cmd => exact callCmd_inv h (.single ht nofun)
  case dat => exact callDat_inv h (.single ht nofun)
  case init => exact callInit_inv h (.single ht nofun)
  case wint => exact callWint_inv h (.single ht nofun)
  case rndr => exact callRndr_inv h (.single ht nofun)
  case txb => exact callTxb_inv h (.single ht nofun)
  case xpkt => exact callXpkt_inv h (.single ht nofun)
  case clrf => exact callClrf_inv h (.single ht nofun)
  case disp => exact callDisp_inv h (.single ht nofun)

end Sys2Proof.Machine
end

section
/-! The lines action by action (R111 to R114): each takes what its label says of the lines to what the next one says. -/

namespace Sys2Proof.Machine

/-! ## The bus words of a transaction (R84, R85) -/

theorem busWord_toNat (rs rw : Bool) (db : Byte) :
    (busWord rs rw db).toNat = (2 * rs.toNat + rw.toNat) * 2 ^ 8 + db.toNat := by
  have hdb : db.toNat < 2 ^ 8 := db.isLt
  rw [busWord, BitVec.toNat_append, ← Nat.shiftLeft_add_eq_or_of_lt hdb, Nat.shiftLeft_eq]
  cases rs <;> cases rw <;> rfl

theorem busWord_write_lt (rs : Bool) (db : Byte) : (busWord rs false db).toNat < 3 * 2 ^ 8 := by
  have hdb := db.isLt
  have hrs := rs.toNat_le
  rw [busWord_toNat, Bool.toNat_false]
  omega

theorem busWord_status_lt (b : Byte) : (busWord false true b).toNat < 3 * 2 ^ 8 := by
  have hb := b.isLt
  rw [busWord_toNat, Bool.toNat_false, Bool.toNat_true]
  omega

theorem decodeLcdbus_status (b : Byte) : decodeLcdbus (busWord false true b).toNat = .ok (.lcdRdstat b) := by
  have hb := b.isLt
  have hw : (busWord false true b).toNat = 2 ^ 8 + b.toNat := busWord_toNat false true b
  have hshape : (2 ^ 8 + b.toNat) / 2 ^ 8 = 1 := by omega
  have hbyte : BitVec.ofNat 8 (2 ^ 8 + b.toNat) = b := by
    rw [← BitVec.toNat_inj, BitVec.toNat_ofNat, Nat.add_mod_left, Nat.mod_eq_of_lt hb]
  simp only [hw, decodeLcdbus, hshape, hbyte]

/-! ## The write phase of CMDI, CMD and DAT -/

section
variable (s : State) {r : Bool} {b : Byte}

theorem State.writing_driveRs (h : s.writing r b 0 = true) : (s.driveRs r).writing r b 1 = true := by
  simpa [State.writing, State.has] using h

theorem State.writing_driveRw (h : s.writing r b 1 = true) : (s.driveRw false).writing r b 2 = true := by
  simp_all [State.writing, State.has]

theorem State.writing_driveBus (h : s.writing r b 2 = true) : (s.driveBus b).writing r b 3 = true := by
  simpa [State.writing, State.has] using h

theorem State.writing_raiseE (h : s.writing r b 3 = true) : s.raiseE.writing r b 4 = true := by
  simp_all [State.writing, State.has]

theorem State.writing_delay (ms : Nat) (h : s.writing r b 4 = true) : (s.delay ms).writing r b 5 = true := by
  simpa [State.writing, State.has, State.delay] using h

/-- The falling edge ends the pulse, with the byte on its way to the LCD. -/
theorem State.writing_lowerE (h : s.writing r b 5 = true) : s.lowerE.resting = true ∧ s.lowerE.wordFits = true := by
  simp only [State.writing, State.has, Bool.and_eq_true, beq_iff_eq] at h
  obtain ⟨⟨⟨⟨hd, hw⟩, he⟩, -⟩, -⟩ := h
  have hword : s.fallingWord = some (busWord s.rs false s.dbo) := s.fallingWord_write he hw
  constructor
  · simp [State.resting, State.has, hd, hw]
  · simpa [State.wordFits, hword] using busWord_write_lt s.rs s.dbo

end

end Sys2Proof.Machine
end

section
/-! Every step keeps the invariant (R32, R38, R115, R188). -/

namespace Sys2Proof.Machine

theorem State.goto_of_seq {s : State} {f : Frame} {rest : List Frame} (hs : s.seq = f :: rest) : s.goto f rest = s := by
  rw [State.goto, State.setSeq, ← hs]

@[simp] theorem State.goto_busy (s : State) (f : Frame) (rest : List Frame) : (s.goto f rest).busy = s.busy := rfl
@[simp] theorem State.lowerE_busy (s : State) : s.lowerE.busy = s.busy := rfl

theorem State.InternalOf.lcdIn {s t : State} (h : t.InternalOf s) : t.lcdIn = s.lcdIn := by
  obtain ⟨he, -⟩ := h
  rw [he]

theorem State.Inv.stands {s : State} (h : s.Inv) : s.Stands s.seq := ⟨h.calls, h.bottom⟩

/-- What the invariant does not read. -/
theorem State.Inv.of_unread {s t : State} (h : s.Inv)
    (ht : t = { s with
      pkt := t.pkt, rxidx := t.rxidx, ready := t.ready, turns := t.turns, host := t.host, trace := t.trace }) :
    t.Inv := by
  obtain ⟨hc, hb⟩ := h.stands.congr (t := t) (by rw [ht]) (by rw [ht]) (by rw [ht])
  rw [ht] at hc hb ⊢
  exact ⟨h.cfgWf, h.nFits, h.lines, h.ready, hc, h.top, hb, h.word⟩

theorem readyFit_of_ungated {s : State} {f : Frame} {rest : List Frame} (hs : s.seq = f :: rest)
    (hw : f ≠ .rdyw .w6) (hf : f.gated = false) : s.readyFit = true := by
  unfold State.readyFit
  split <;> simp_all

/-- Once the LCD agent has settled a transaction, a ready-wait at `W6` has been told what it sampled (R111). -/
theorem State.Inv.settle {s : State} {w : BusWord} (h : s.Inv) (hw : s.lcdIn = some w) :
    (s.lcdTake fun _ => s.lcdSettled).Inv := by
  obtain ⟨hc, hb⟩ := h.stands.congr (t := s.lcdTake fun _ => s.lcdSettled) rfl rfl rfl
  refine ⟨h.cfgWf, h.nFits, h.lines, ?ready, hc, h.top, hb, rfl⟩
  have hr := h.ready
  unfold State.readyFit at hr ⊢
  split at hr
  next rest hs =>
    have hstat : w = busWord false true s.stat := by simpa [hw] using hr
    simp [hs, State.lcdSettled, hw, hstat, decodeLcdbus_status, State.busy]
  next f rest hne hs =>
    have hungated : f.gated = false := by simpa [hw] using hr
    exact readyFit_of_ungated hs hne hungated
  next hs => simp [hs]

/-! ## Within an operation -/

/-- An action within the operation on top leads to another of its labels. -/
theorem State.Inv.act {s t : State} {f f' : Frame} {rest : List Frame} (h : (s.goto f rest).Inv)
    (hf : f.entry = f'.entry) (hc : t.cfg = s.cfg) (hn : t.n = s.n) (hi : t.i = s.i)
    (lines : (t.goto f' rest).linesFit = true) (ready : (t.goto f' rest).readyFit = true)
    (top : (t.goto f' rest).topFits = true) (word : t.wordFits = true) : (t.goto f' rest).Inv := by
  obtain ⟨hcalls, hbottom⟩ := (h.stands.relabel f' hf).congr (t := t.goto f' rest) hc hi hn
  have hcfg := h.cfgWf
  have hnFits := h.nFits
  refine ⟨?_, ?_, lines, ready, hcalls, top, hbottom, word⟩
  · rw [State.goto_cfg] at hcfg ⊢
    rw [hc]
    exact hcfg
  · simpa [hc, hn] using hnFits

/-- With the lines at rest at the label of the frame on top. -/
theorem State.Inv.between {s : State} {f : Frame} {rest : List Frame} (h : (s.goto f rest).Inv)
    (hf : (s.goto f rest).linesFit = s.resting) : s.Between := ⟨h.cfgWf, h.nFits, hf ▸ h.lines, h.word⟩

theorem State.Inv.stands_goto {s : State} {f : Frame} {rest : List Frame} (h : (s.goto f rest).Inv) :
    s.Stands (f :: rest) := h.stands.congr rfl rfl rfl

/-- The falling edge of a write. -/
theorem State.Inv.lowerE {s : State} {f : Frame} {rest : List Frame} {r : Bool} {b : Byte} (h : (s.goto f rest).Inv)
    (hw : s.writing r b 5 = true) : s.lowerE.Between := by
  obtain ⟨hrests, hword⟩ := s.writing_lowerE hw
  exact ⟨h.cfgWf, h.nFits, hrests, hword⟩

/-- RDYW returns to the operation whose write it gates, or ends (R111, R115). -/
theorem returnTo_rdyw_inv {s : State} {l : RdywLbl} {rest : List Frame} (h : s.Between)
    (hs : s.Stands (.rdyw l :: rest)) (hl : s.lcdIn = none) (hg : s.lcd.gated = true) (hb : s.busy = false) :
    (returnTo .rdyw rest s).Inv := by
  have ready : (s.lcdIn.isNone && s.lcd.gated && !s.busy) = true := by simp [hl, hg, hb]
  cases rest with
  | nil => exact (h.emit _).idle (hs.hosted_of_single nofun)
  | cons g rest =>
    obtain ⟨hc, hrest⟩ := hs.pop
    cases g with
    | cmd l v =>
      cases l <;> cases hc
      exact h.goto_of_rests (hrest.relabel (.cmd .k1 v) rfl) (s.writing_zero _ _) ready rfl
    | dat l v =>
      cases l <;> cases hc
      exact h.goto_of_rests (hrest.relabel (.dat .t1 v) rfl) (s.writing_zero _ _) ready rfl
    | rdyw _ | cmdi _ _ | init _ | wint _ | rndr _ | txb _ _ | xpkt _ | clrf | disp _ | main _ => cases hc

/-! ## The micro-steps of each operation, `hl` saying that nothing waits for the LCD agent -/

section
variable {s : State} {rest : List Frame}

theorem rdywMicro_inv {l : RdywLbl} (h : (s.goto (.rdyw l) rest).Inv) (hl : s.lcdIn = none) :
    (rdywMicro l rest s).Inv := by
  have lines := h.lines
  cases l <;> simp only [State.linesFit, State.goto_seq, State.resting, State.has, Bool.and_eq_true, beq_iff_eq,
    State.goto_dir, State.goto_rw, State.goto_e, State.goto_rs] at lines
  case w0 | w1 | w2 | w3 | w4 =>
    exact h.act rfl rfl rfl rfl (by simp_all [State.linesFit, State.has, State.delay]) rfl rfl h.word
  case w5 =>
    exact h.act rfl rfl rfl rfl (by simp_all [State.linesFit, State.has]) (by simp [State.readyFit])
      rfl (by simpa [State.wordFits] using busWord_status_lt s.nextSample)
  case w6 =>
    have hrw : s.rw = true := by simp_all
    have hword : s.fallingWord = none := (s.fallingWord_read hrw).trans hl
    have hgated : s.lcd.gated = !s.busy := by simpa [State.readyFit, hl] using h.ready
    have word : s.lowerE.wordFits = true := by simp only [State.wordFits, State.lowerE_lcdIn, hword]
    cases hb : s.busy <;> simp only [rdywMicro, hb, if_true, if_false, Bool.false_eq_true]
    case true => exact h.act rfl rfl rfl rfl (by simp_all [State.linesFit, State.has]) rfl rfl word
    case false =>
      have ready : (s.lowerE.lcdIn.isNone && s.lowerE.lcd.gated && !s.lowerE.busy) = true := by
        simp [hword, hgated, hb]
      exact h.act rfl rfl rfl rfl (by simp_all [State.linesFit, State.has]) ready rfl word
  case w7 => exact h.act rfl rfl rfl rfl (by simp_all [State.linesFit, State.has]) h.ready rfl h.word
  case w8 =>
    obtain ⟨hg, hbusy⟩ : s.lcd.gated = true ∧ s.busy = false := by
      simpa [State.readyFit, Frame.gated, hl] using h.ready
    have hb : (s.driveRw false).Between := ⟨h.cfgWf, h.nFits, by simp_all [State.resting, State.has], h.word⟩
    exact returnTo_rdyw_inv hb (h.stands_goto.congr rfl rfl rfl) hl hg hbusy

theorem cmdiMicro_inv {l : CmdiLbl} {c : Byte} (h : (s.goto (.cmdi l c) rest).Inv) : (cmdiMicro l c rest s).Inv := by
  have lines := h.lines
  cases l
  case c0 => exact h.act rfl rfl rfl rfl (s.writing_driveRs lines) rfl rfl h.word
  case c1 => exact h.act rfl rfl rfl rfl (s.writing_driveRw lines) rfl rfl h.word
  case c2 => exact h.act rfl rfl rfl rfl (s.writing_driveBus lines) rfl rfl h.word
  case c3 => exact h.act rfl rfl rfl rfl (s.writing_raiseE lines) rfl rfl h.word
  case c4 => exact h.act rfl rfl rfl rfl (s.writing_delay s.cfg.tPulse lines) rfl rfl h.word
  case c5 => exact returnTo_inv rfl .cmdi (h.lowerE lines) (h.stands_goto.congr rfl rfl rfl)

theorem cmdMicro_inv {l : CmdLbl} {c : Byte} (h : (s.goto (.cmd l c) rest).Inv) : (cmdMicro l c rest s).Inv := by
  have lines := h.lines
  cases l
  case k0 => exact callRdyw_inv (h.between rfl) (h.stands_goto.push rfl)
  case k1 => exact h.act rfl rfl rfl rfl (s.writing_driveRs lines) h.ready rfl h.word
  case k2 => exact h.act rfl rfl rfl rfl (s.writing_driveRw lines) h.ready rfl h.word
  case k3 => exact h.act rfl rfl rfl rfl (s.writing_driveBus lines) h.ready rfl h.word
  case k4 => exact h.act rfl rfl rfl rfl (s.writing_raiseE lines) h.ready rfl h.word
  case k5 => exact h.act rfl rfl rfl rfl (s.writing_delay s.cfg.tPulse lines) h.ready rfl h.word
  case k6 => exact returnTo_inv rfl .cmd (h.lowerE lines) (h.stands_goto.congr rfl rfl rfl)

theorem datMicro_inv {l : DatLbl} {d : Byte} (h : (s.goto (.dat l d) rest).Inv) : (datMicro l d rest s).Inv := by
  have lines := h.lines
  cases l
  case t0 => exact callRdyw_inv (h.between rfl) (h.stands_goto.push rfl)
  case t1 => exact h.act rfl rfl rfl rfl (s.writing_driveRs lines) h.ready rfl h.word
  case t2 => exact h.act rfl rfl rfl rfl (s.writing_driveRw lines) h.ready rfl h.word
  case t3 => exact h.act rfl rfl rfl rfl (s.writing_driveBus lines) h.ready rfl h.word
  case t4 => exact h.act rfl rfl rfl rfl (s.writing_raiseE lines) h.ready rfl h.word
  case t5 => exact h.act rfl rfl rfl rfl (s.writing_delay s.cfg.tPulse lines) h.ready rfl h.word
  case t6 => exact returnTo_inv rfl .dat (h.lowerE lines) (h.stands_goto.congr rfl rfl rfl)

theorem initMicro_inv {l : InitLbl} (h : (s.goto (.init l) rest).Inv) : (initMicro l rest s).Inv := by
  have hb : s.Between := h.between rfl
  have stands (l' : InitLbl) : s.Stands (.init l' :: rest) := h.stands_goto.relabel (.init l') rfl
  have delayed (ms : Nat) : (s.delay ms).Between := hb.emit _
  have stands_delayed (ms : Nat) (l' : InitLbl) : (s.delay ms).Stands (.init l' :: rest) :=
    (stands l').congr rfl rfl rfl
  cases l
  case i0 =>
    simp only [initMicro]
    split
    · exact initFirst_inv (delayed _) (stands_delayed _ .i1)
    · exact initFirst_inv hb (stands .i1)
  case i1 => exact initFirst_inv hb (stands .i1)
  case i2 => exact callCmdi_inv (delayed _) ((stands_delayed _ .i3).push rfl)
  case i3 => exact callCmdi_inv hb ((stands .i3).push rfl)
  case i4 => exact callCmdi_inv (delayed _) ((stands_delayed _ .i5).push rfl)
  case i5 => exact callCmdi_inv hb ((stands .i5).push rfl)
  case i6 =>
    simp only [initMicro]
    split
    · exact initGated_inv (delayed _) (stands_delayed _ .i7)
    · exact initGated_inv hb (stands .i7)
  case i7 => exact initGated_inv hb (stands .i7)
  case i8 => exact callCmd_inv hb ((stands .i8).push rfl)
  case i9 => exact callCmd_inv hb ((stands .i9).push rfl)
  case i10 => exact callCmd_inv hb ((stands .i10).push rfl)

/-- WINT's frame is never on top: beneath its DAT it calls or returns. -/
theorem wintMicro_inv {l : WintLbl} (h : (s.goto (.wint l) rest).Inv) : (wintMicro rest s).Inv := by
  cases h.top

theorem rndrMicro_inv {l : RndrLbl} (h : (s.goto (.rndr l) rest).Inv) : (rndrMicro l rest s).Inv := by
  have top := h.top
  cases l
  case d2a =>
    have stands : (s.readPkt (packetIndex s.i)).Stands (.rndr .d2b :: rest) :=
      (h.stands_goto.relabel (.rndr .d2b) rfl).congr rfl rfl rfl
    exact callDat_inv ((h.between rfl).readPkt _) (.push stands top)
  case d0 | d1 | d2b | d3 => cases top

theorem txbMicro_inv {l : TxbLbl} {b : Byte} (h : (s.goto (.txb l b) rest).Inv) : (txbMicro l b rest s).Inv := by
  have hb : s.Between := h.between rfl
  have stands (l' : TxbLbl) (t : State) (ht : t.cfg = s.cfg) : t.Stands (.txb l' b :: rest) :=
    (h.stands_goto.relabel (.txb l' b) rfl).of_loopFree rfl ht
  cases l
  case x0 =>
    exact hb.pollTx.goto (stands _ _ rfl) rfl
  case x1 => exact returnTo_inv rfl .txb (hb.emit _) (stands .x1 _ rfl)

theorem xpktMicro_inv {l : XpktLbl} (h : (s.goto (.xpkt l) rest).Inv) : (xpktMicro l rest s).Inv := by
  have hb : s.Between := h.between rfl
  have hi : decide (s.i.toNat < 4) = true := h.top
  have stands (l' : XpktLbl) (t : State) (ht : t.cfg = s.cfg) : t.Stands (.xpkt l' :: rest) :=
    (h.stands_goto.relabel (.xpkt l') rfl).of_loopFree rfl ht
  cases l
  case e0 =>
    exact hb.pollTx.goto (stands _ _ rfl) hi
  case e1 =>
    exact (hb.readPkt _).goto (stands _ _ rfl) hi
  case e2 =>
    have hb : (s.writeTx s.v).Between := hb.emit _
    simp only [xpktMicro]
    split
    · exact returnTo_inv rfl .xpkt hb (stands .e2 _ rfl)
    · next h3 =>
      have hlt : (s.i + 1).toNat < 4 := by
        have := of_decide_eq_true hi
        bv_omega
      exact (hb.setI _).goto (stands _ _ rfl) (decide_eq_true hlt)

theorem clrfMicro_inv (h : (s.goto .clrf rest).Inv) : (clrfMicro rest s).Inv := by
  have hb : s.Between := h.between rfl
  exact returnTo_inv rfl .clrf hb.clearFlag (h.stands_goto.congr rfl rfl rfl)

theorem dispMicro_inv {l : DispLbl} (h : (s.goto (.disp l) rest).Inv) : (dispMicro l rest s).Inv := by
  have hb : s.Between := h.between rfl
  have stands (l' : DispLbl) (t : State) (ht : t.cfg = s.cfg) : t.Stands (.disp l' :: rest) :=
    (h.stands_goto.relabel (.disp l') rfl).of_loopFree rfl ht
  cases l
  case l0 =>
    have hb : s.readFlag.Between := hb.emit _
    simp only [dispMicro]
    split
    · exact callRndr_inv hb (.push (stands .l1 _ rfl) rfl)
    · exact returnTo_inv rfl .disp hb (stands .l0 _ rfl)
  case l1 => exact callRndr_inv hb (.push (stands .l1 _ rfl) rfl)
  case l2 => exact callXpkt_inv hb (.push (stands .l2 _ rfl) rfl)
  case l3 => exact callClrf_inv hb (.push (stands .l3 _ rfl) rfl)

end

/-! ## The step -/

/-- Whatever frame is on top, its micro-step keeps the invariant. -/
theorem frameStep_inv {s : State} {f : Frame} {rest : List Frame} (h : s.Inv) (hs : s.seq = f :: rest)
    (hl : s.lcdIn = none) : (frameStep f rest s).Inv := by
  have htop : (s.goto f rest).Inv := (State.goto_of_seq hs).symm ▸ h
  cases f with
  | rdyw l => exact rdywMicro_inv htop hl
  | cmdi l c => exact cmdiMicro_inv htop
  | cmd l c => exact cmdMicro_inv htop
  | dat l d => exact datMicro_inv htop
  | init l => exact initMicro_inv htop
  | wint l => exact wintMicro_inv htop
  | rndr l => exact rndrMicro_inv htop
  | txb l b => exact txbMicro_inv htop
  | xpkt l => exact xpktMicro_inv htop
  | clrf => exact clrfMicro_inv htop
  | disp l => exact dispMicro_inv htop
  | main l => exact h

theorem State.Inv.wake {s : State} (h : s.Inv) : s.wake.Inv := by
  unfold State.wake
  split
  next rest hs =>
    rw [← State.goto_of_seq hs] at h
    exact mainStart_inv (h.between rfl) h.stands_goto
  next rest hs =>
    rw [← State.goto_of_seq hs] at h
    exact mainNext_inv (h.between rfl) h.stands_goto
  next => exact h

theorem State.Inv.accept {s : State} {i : Instr} {op : OpName} {call : List Frame → State → State} (h : s.Inv)
    (hs : s.seq = []) (ht : s.cfg.top = .hosted) (hr : requestOf i = some (op, call)) : (s.accept op call).Inv := by
  have hb : s.Between := ⟨h.cfgWf, h.nFits, by simpa [State.linesFit, hs] using h.lines, h.word⟩
  exact requestOf_inv hr (hb.emit _) ht

/-- Settles O53: the invariant is kept by each effect a step can have. -/
theorem stepKeepsInv : Obligations.StepKeepsInv := by
  intro s t h hstep
  rcases step_effect hstep with ⟨w, hw, rfl⟩ | ⟨-, b, -, rfl⟩ | ⟨hl, -, hq⟩
  · exact h.settle hw
  · exact h.of_unread rfl
  · have hwake : s.takeTurn.wake.Inv := (h.of_unread rfl : s.takeTurn.Inv).wake
    rcases hq with ⟨f, rest, hs, rfl⟩ | ⟨hs, ht, i, op, call, hr, rfl⟩ | ⟨-, rfl | rfl⟩
    · have hl' : s.takeTurn.wake.lcdIn = none := by
        rw [s.takeTurn.wake_internal.lcdIn]
        exact hl
      exact frameStep_inv hwake hs hl'
    · exact (hwake.of_unread rfl : s.takeTurn.wake.takeOffer.Inv).accept hs ht hr
    · exact hwake.of_unread rfl
    · exact hwake

end Sys2Proof.Machine
end

section
/-! What an instruction of the sequencer does when it is run, and what a return can write (R31, R32): the stack and the
trace always, `V`, `I` or `N` only where the operation returned to goes on with a call that loads it. -/

namespace Sys2Proof.Machine

/-! ## An instruction that is a request -/

/-- Over a frame that is another instruction's, a request waits (R142). -/
theorem exec_waits {s : State} {i : Instr} {f : Frame} {rest : List Frame}
    {r : OpName × (List Frame → State → State)} (hs : s.seq = f :: rest) (hr : requestOf i = some r)
    (hf : ∀ n, frameInstr n f ≠ some i) :
    exec i s = .next s := by
  cases i <;> simp only [requestOf, reduceCtorEq] at hr
  case rdyw => cases f <;> simp_all [exec, execRdyw, frameInstr]
  case cmdi => cases f <;> simp_all [exec, execCmdi, frameInstr]
  case cmd => cases f <;> simp_all [exec, execCmd, frameInstr]
  case dat => cases f <;> simp_all [exec, execDat, frameInstr]
  case init => cases f <;> simp_all [exec, execInit, frameInstr]
  case wint => cases f <;> simp_all [exec, execWint, frameInstr]
  case rndr => cases f <;> simp_all [exec, execRndr, frameInstr]
  case txb => cases f <;> simp_all [exec, execTxb, frameInstr]
  case xpkt => cases f <;> simp_all [exec, execXpkt, frameInstr]
  case clrf => cases f <;> simp_all [exec, execClrf, frameInstr]
  case disp => cases f <;> simp_all [exec, execDisp, frameInstr]

/-- An idle sequencer accepts the request, a sequencer with its frame on top takes that frame's micro-step, and any
other leaves it waiting. -/
theorem exec_effect {s t : State} {i : Instr} {op : OpName} {call : List Frame → State → State}
    (hr : requestOf i = some (op, call)) (h : exec i s = .next t) :
    (s.seq = [] ∧ t = s.accept op call) ∨
    (∃ f rest n, s.seq = f :: rest ∧ frameInstr n f = some i ∧ t = frameStep f rest s) ∨ t = s := by
  cases hs : s.seq with
  | nil =>
    rw [exec_request hs hr] at h
    cases h
    exact .inl ⟨rfl, rfl⟩
  | cons f rest =>
    by_cases hf : ∃ n, frameInstr n f = some i
    · obtain ⟨n, hn⟩ := hf
      rw [exec_frameInstr hs hn] at h
      cases h
      exact .inr (.inl ⟨f, rest, n, rfl, hn, rfl⟩)
    · rw [exec_waits hs hr (not_exists.mp hf)] at h
      cases h
      exact .inr (.inr rfl)

/-! ## What a return writes -/

/-- `t` is `s` but for the stack and the trace. -/
def State.MovedFrom (t s : State) : Prop := ∃ fs tr, t = { s with seq := fs, trace := tr }

/-- `t` is `s` but for `V`, the stack and the trace. -/
def State.LoadedFrom (t s : State) : Prop := ∃ b fs tr, t = { s with v := b, seq := fs, trace := tr }

/-- `t` is `s` but for `V`, `I`, the stack and the trace. -/
def State.IndexedFrom (t s : State) : Prop := ∃ b j fs tr, t = { s with v := b, i := j, seq := fs, trace := tr }

theorem State.MovedFrom.loaded {s t : State} (h : t.MovedFrom s) : t.LoadedFrom s := by
  obtain ⟨fs, tr, rfl⟩ := h
  exact ⟨_, _, _, rfl⟩

theorem State.LoadedFrom.indexed {s t : State} (h : t.LoadedFrom s) : t.IndexedFrom s := by
  obtain ⟨b, fs, tr, rfl⟩ := h
  exact ⟨_, _, _, _, rfl⟩

/-- The operations MAIN runs (R141). -/
def Frame.inMain : Frame → Bool
  | .init _ => true
  | .disp _ => true
  | _ => false

section
variable {s : State} {rest : List Frame} (done : OpName)

/-- RDYW returns to the write it gates. -/
theorem returnTo_rdyw_moved {l : RdywLbl} (hs : s.Stands (.rdyw l :: rest)) : (returnTo done rest s).MovedFrom s := by
  cases rest with
  | nil => exact ⟨_, _, rfl⟩
  | cons g rest =>
    obtain ⟨hc, -⟩ := hs.pop
    cases g with
    | cmd l v => cases l <;> exact ⟨_, _, rfl⟩
    | dat l v => cases l <;> exact ⟨_, _, rfl⟩
    | rdyw _ | cmdi _ _ | init _ | wint _ | rndr _ | txb _ _ | xpkt _ | clrf | disp _ | main _ => cases hc

/-- INIT and DISP return to MAIN, which starts the next DISP. -/
theorem returnTo_moved_of_inMain {f : Frame} (hf : f.inMain = true) (hs : s.Stands (f :: rest)) :
    (returnTo done rest s).MovedFrom s := by
  cases rest with
  | nil => exact ⟨_, _, rfl⟩
  | cons g rest =>
    obtain ⟨hc, -⟩ := hs.pop
    obtain ⟨l, rfl⟩ : ∃ l, g = .main l := by
      unfold State.callFits at hc
      split at hc <;> simp_all [Frame.inMain]
    exact ⟨_, _, rfl⟩

/-- CLRF is DISP's last call, which returns in its turn. -/
theorem returnTo_clrf_moved (hs : s.Stands (.clrf :: rest)) : (returnTo done rest s).MovedFrom s := by
  cases rest with
  | nil => exact ⟨_, _, rfl⟩
  | cons g rest =>
    obtain ⟨hc, hrest⟩ := hs.pop
    cases g with
    | disp l => cases l <;> cases hc; exact returnTo_moved_of_inMain .disp rfl hrest
    | rdyw _ | cmdi _ _ | cmd _ _ | dat _ _ | init _ | wint _ | rndr _ | txb _ _ | xpkt _ | clrf | main _ => cases hc

/-- XPKT returns to DISP, which calls CLRF. -/
theorem returnTo_xpkt_moved {l : XpktLbl} (hs : s.Stands (.xpkt l :: rest)) : (returnTo done rest s).MovedFrom s := by
  cases rest with
  | nil => exact ⟨_, _, rfl⟩
  | cons g rest =>
    obtain ⟨hc, -⟩ := hs.pop
    cases g with
    | disp l => cases l <;> cases hc; exact ⟨_, _, rfl⟩
    | rdyw _ | cmdi _ _ | cmd _ _ | dat _ _ | init _ | wint _ | rndr _ | txb _ _ | xpkt _ | clrf | main _ => cases hc

/-- No operation calls TXB. -/
theorem returnTo_txb_moved {l : TxbLbl} {b : Byte} (hs : s.Stands (.txb l b :: rest)) :
    (returnTo done rest s).MovedFrom s := by
  cases rest with
  | nil => exact ⟨_, _, rfl⟩
  | cons g rest => cases hs.pop.1

/-- CMDI returns to INIT, where the third one may be followed by a CMD. -/
theorem returnTo_cmdi_loaded {l : CmdiLbl} {c : Byte} (hs : s.Stands (.cmdi l c :: rest)) :
    (returnTo done rest s).LoadedFrom s := by
  cases rest with
  | nil => exact ⟨_, _, _, rfl⟩
  | cons g rest =>
    obtain ⟨hc, -⟩ := hs.pop
    cases g with
    | init l =>
      cases l <;> simp only [State.callFits, reduceCtorEq] at hc
      case i1 | i3 => exact ⟨_, _, _, rfl⟩
      case i5 =>
        simp only [returnTo, initAfter]
        split
        · exact ⟨_, _, _, rfl⟩
        · exact ⟨_, _, _, rfl⟩
    | rdyw _ | cmdi _ _ | cmd _ _ | dat _ _ | wint _ | rndr _ | txb _ _ | xpkt _ | clrf | disp _ | main _ => cases hc

/-- RNDR returns to DISP, which calls XPKT and so starts a loop. -/
theorem returnTo_rndr_indexed {l : RndrLbl} (hs : s.Stands (.rndr l :: rest)) :
    (returnTo done rest s).IndexedFrom s := by
  cases rest with
  | nil => exact ⟨_, _, _, _, rfl⟩
  | cons g rest =>
    obtain ⟨hc, -⟩ := hs.pop
    cases g with
    | disp l => cases l <;> cases hc; exact ⟨_, _, _, _, rfl⟩
    | rdyw _ | cmdi _ _ | cmd _ _ | dat _ _ | init _ | wint _ | rndr _ | txb _ _ | xpkt _ | clrf | main _ => cases hc

/-- CMD returns to INIT or to RNDR, whose first CMD is followed by a loop and whose last by its return. -/
theorem returnTo_cmd_indexed {l : CmdLbl} {c : Byte} (hs : s.Stands (.cmd l c :: rest)) :
    (returnTo done rest s).IndexedFrom s := by
  cases rest with
  | nil => exact ⟨_, _, _, _, rfl⟩
  | cons g rest =>
    obtain ⟨hc, hrest⟩ := hs.pop
    cases g with
    | init l =>
      cases l <;> simp only [State.callFits, reduceCtorEq] at hc
      case i7 | i8 | i9 => exact ⟨_, _, _, _, rfl⟩
      case i10 => exact (returnTo_moved_of_inMain .init rfl hrest).loaded.indexed
    | rndr l =>
      cases l <;> simp only [State.callFits, reduceCtorEq] at hc
      case d0 => exact ⟨_, _, _, _, rfl⟩
      case d3 => exact returnTo_rndr_indexed .rndr hrest
    | rdyw _ | cmdi _ _ | cmd _ _ | dat _ _ | wint _ | txb _ _ | xpkt _ | clrf | disp _ | main _ => cases hc

end

end Sys2Proof.Machine
end

section
/-! What a step of each operation leaves unchanged (R31, R110 to R140): its own actions, and what its return writes. -/

namespace Sys2Proof.Machine

theorem State.Inv.stands_of_seq {s : State} {f : Frame} {rest : List Frame} (h : s.Inv) (hs : s.seq = f :: rest) :
    s.Stands (f :: rest) := hs ▸ h.stands

section
variable {s t : State} {b : Byte}

/-! ## The primitives -/

theorem exec_rdyw_frame (h : s.Inv) (hx : exec .rdyw s = .next t) :
    t = { s with dir := t.dir, rs := t.rs, rw := t.rw, e := t.e, stat := t.stat, seq := t.seq,
                 samples := t.samples, trace := t.trace, lcdIn := t.lcdIn } := by
  rcases exec_effect rfl hx with ⟨-, rfl⟩ | ⟨f, rest, n, hs, hf, rfl⟩ | rfl
  · rfl
  · cases f <;> cases hf
    next l =>
      cases l
      case w8 =>
        obtain ⟨fs, tr, he⟩ := returnTo_rdyw_moved (s := s.driveRw false) .rdyw
          ((h.stands_of_seq hs).congr rfl rfl rfl)
        rw [frameStep, rdywMicro, he]
        rfl
      all_goals rfl
  · rfl

theorem exec_cmdi_frame (h : s.Inv) (hx : exec (.cmdi b) s = .next t) :
    t = { s with rs := t.rs, rw := t.rw, e := t.e, dbo := t.dbo, v := t.v, seq := t.seq,
                 trace := t.trace, lcdIn := t.lcdIn } := by
  rcases exec_effect rfl hx with ⟨-, rfl⟩ | ⟨f, rest, n, hs, hf, rfl⟩ | rfl
  · rfl
  · cases f <;> cases hf
    next l =>
      cases l
      case c5 =>
        obtain ⟨v, fs, tr, he⟩ := returnTo_cmdi_loaded (s := s.lowerE) .cmdi
          ((h.stands_of_seq hs).congr rfl rfl rfl)
        rw [frameStep, cmdiMicro, he]
        rfl
      all_goals rfl
  · rfl

theorem exec_cmd_frame (h : s.Inv) (hx : exec (.cmd b) s = .next t) :
    t = { s with rs := t.rs, rw := t.rw, e := t.e, dbo := t.dbo, v := t.v, i := t.i, seq := t.seq,
                 trace := t.trace, lcdIn := t.lcdIn } := by
  rcases exec_effect rfl hx with ⟨-, rfl⟩ | ⟨f, rest, n, hs, hf, rfl⟩ | rfl
  · rfl
  · cases f <;> cases hf
    next l =>
      cases l
      case k6 =>
        obtain ⟨v, j, fs, tr, he⟩ := returnTo_cmd_indexed (s := s.lowerE) .cmd
          ((h.stands_of_seq hs).congr rfl rfl rfl)
        rw [frameStep, cmdMicro, he]
        rfl
      all_goals rfl
  · rfl

/-- DAT may write all that a return can write, whatever the stack. -/
theorem exec_dat_frame (hx : exec (.dat b) s = .next t) :
    t = { s with rs := t.rs, rw := t.rw, e := t.e, dbo := t.dbo, v := t.v, i := t.i, n := t.n, seq := t.seq,
                 trace := t.trace, lcdIn := t.lcdIn } := by
  rcases exec_effect rfl hx with ⟨-, rfl⟩ | ⟨f, rest, n, hs, hf, rfl⟩ | rfl
  · rfl
  · cases f <;> cases hf
    next l =>
      cases l
      case t6 =>
        obtain ⟨he, -⟩ := returnTo_internal rest .dat s.lowerE
        rw [frameStep, datMicro, he]
        rfl
      all_goals rfl
  · rfl

/-- Settles O41, primitive by primitive. -/
theorem primitivesFrame : Obligations.PrimitivesFrame := fun _ _ _ h =>
  ⟨exec_rdyw_frame h, exec_cmdi_frame h, exec_cmd_frame h, exec_dat_frame⟩

/-! ## The composites -/

/-- INIT's own steps are delays and calls; none is a return. -/
theorem exec_init_frame (hx : exec .init s = .next t) : t = { s with v := t.v, seq := t.seq, trace := t.trace } := by
  rcases exec_effect rfl hx with ⟨-, rfl⟩ | ⟨f, rest, n, -, hf, rfl⟩ | rfl
  · simp only [State.accept, callInit]
    split <;> rfl
  · cases f <;> cases hf
    next l =>
      cases l
      case i0 | i6 =>
        simp only [frameStep, initMicro]
        split <;> rfl
      all_goals rfl
  · rfl

/-- WINT's frame is never on top, so its one step is the acceptance, which returns at once for 0. -/
theorem exec_wint_frame {m : Nat} (h : s.Inv) (hx : exec (.wint m) s = .next t) :
    t = { s with n := t.n, v := t.v, seq := t.seq, trace := t.trace } := by
  rcases exec_effect rfl hx with ⟨-, rfl⟩ | ⟨f, rest, n, hs, hf, rfl⟩ | rfl
  · simp only [State.accept, callWint, wintTest]
    split <;> rfl
  · cases f <;> cases hf
    have htop := h.top
    simp only [State.topFits, hs, Bool.false_eq_true] at htop
  · rfl

/-- RNDR's own steps are packet reads and calls; none is a return. -/
theorem exec_rndr_frame (hx : exec .rndr s = .next t) : t = { s with v := t.v, seq := t.seq, trace := t.trace } := by
  rcases exec_effect rfl hx with ⟨-, rfl⟩ | ⟨f, rest, n, -, hf, rfl⟩ | rfl
  · rfl
  · cases f <;> cases hf
    next l => cases l <;> rfl
  · rfl

/-- Settles O42, composite by composite. -/
theorem compositesFrame : Obligations.CompositesFrame := fun _ _ _ h =>
  ⟨exec_init_frame, exec_wint_frame h, exec_rndr_frame⟩

/-! ## The handoff -/

theorem exec_txb_frame (h : s.Inv) (hx : exec (.txb b) s = .next t) :
    t = { s with v := t.v, seq := t.seq, txhw := t.txhw, trace := t.trace } := by
  rcases exec_effect rfl hx with ⟨-, rfl⟩ | ⟨f, rest, n, hs, hf, rfl⟩ | rfl
  · rfl
  · cases f <;> cases hf
    next l =>
      cases l
      case x0 => rfl
      case x1 =>
        obtain ⟨fs, tr, he⟩ := returnTo_txb_moved (s := s.writeTx b) .txb ((h.stands_of_seq hs).congr rfl rfl rfl)
        rw [frameStep, txbMicro, he]
        rfl
  · rfl

theorem exec_xpkt_frame (h : s.Inv) (hx : exec .xpkt s = .next t) :
    t = { s with v := t.v, i := t.i, seq := t.seq, txhw := t.txhw, trace := t.trace } := by
  rcases exec_effect rfl hx with ⟨-, rfl⟩ | ⟨f, rest, n, hs, hf, rfl⟩ | rfl
  · rfl
  · cases f <;> cases hf
    next l =>
      cases l
      case e0 | e1 => rfl
      case e2 =>
        simp only [frameStep, xpktMicro]
        split
        · obtain ⟨fs, tr, he⟩ := returnTo_xpkt_moved (s := s.writeTx s.v) .xpkt
            ((h.stands_of_seq hs).congr rfl rfl rfl)
          rw [he]
          rfl
        · rfl
  · rfl

theorem exec_clrf_frame (h : s.Inv) (hx : exec .clrf s = .next t) :
    t = { s with ready := t.ready, seq := t.seq, trace := t.trace } := by
  rcases exec_effect rfl hx with ⟨-, rfl⟩ | ⟨f, rest, n, hs, hf, rfl⟩ | rfl
  · rfl
  · cases f <;> cases hf
    obtain ⟨fs, tr, he⟩ := returnTo_clrf_moved (s := s.clearFlag) .clrf ((h.stands_of_seq hs).congr rfl rfl rfl)
    rw [frameStep, clrfMicro, he]
    rfl
  · rfl

/-- DISP on top is at its first label, so it does not call XPKT, which would load `I`. -/
theorem exec_disp_frame (h : s.Inv) (hx : exec .disp s = .next t) :
    t = { s with v := t.v, seq := t.seq, trace := t.trace } := by
  rcases exec_effect rfl hx with ⟨-, rfl⟩ | ⟨f, rest, n, hs, hf, rfl⟩ | rfl
  · rfl
  · cases f <;> cases hf
    next l =>
      have htop := h.top
      cases l <;> simp only [State.topFits, hs, Bool.false_eq_true] at htop
      simp only [frameStep, dispMicro]
      split
      · rfl
      · obtain ⟨fs, tr, he⟩ := returnTo_moved_of_inMain (s := s.readFlag) .disp rfl
          ((h.stands_of_seq hs).congr rfl rfl rfl)
        rw [he]
        rfl
  · rfl

/-- Settles O43, operation by operation. -/
theorem handoffFrame : Obligations.HandoffFrame := fun _ _ _ h =>
  ⟨exec_txb_frame h, exec_xpkt_frame h, exec_clrf_frame h, exec_disp_frame h⟩

end

/-! ## The LCD's rows -/

/-- Settles O44: each of the nine rows is the LCD agent taking in what waits for it. -/
theorem lcdRowsFrame : Obligations.LcdRowsFrame := by
  intro s t i b hi hx
  simp only [List.mem_cons, List.not_mem_nil, or_false] at hi
  have taken : ∃ f, exec i s = .next (s.lcdTake f) := by
    rcases hi with rfl | rfl | rfl | rfl | rfl | rfl | rfl | rfl | rfl
    all_goals exact ⟨_, rfl⟩
  obtain ⟨f, hf⟩ := taken
  rw [hf] at hx
  cases hx
  exact s.lcdTake_frame f

end Sys2Proof.Machine
end

section
/-! The ReadyFlag and the receive index step by step (R22, R23), the lines in every state (R38), and reset (R36). -/

namespace Sys2Proof.Machine

/-! ## READY (R23) -/

theorem State.InternalOf.ready {s t : State} (h : t.InternalOf s) : t.ready = s.ready := by
  obtain ⟨he, -⟩ := h
  rw [he]

section
variable {rest : List Frame} {s : State}

theorem returnTo_ready (done : OpName) (rest : List Frame) (s : State) : (returnTo done rest s).ready = s.ready :=
  (returnTo_internal rest done s).ready

theorem initMicro_ready (l : InitLbl) : (initMicro l rest s).ready = s.ready := by
  cases l
  case i0 | i6 => simp only [initMicro]; split <;> rfl
  all_goals rfl

theorem wintMicro_ready : (wintMicro rest s).ready = s.ready := by
  unfold wintMicro
  cases h : wintTest rest s with
  | none => exact returnTo_ready .wint rest s
  | some t => exact (wintTest_internal h).ready

theorem xpktMicro_ready (l : XpktLbl) : (xpktMicro l rest s).ready = s.ready := by
  cases l
  case e0 | e1 => rfl
  case e2 =>
    simp only [xpktMicro]
    split
    · exact returnTo_ready .xpkt rest _
    · rfl

theorem dispMicro_ready (l : DispLbl) : (dispMicro l rest s).ready = s.ready := by
  cases l
  case l0 =>
    simp only [dispMicro]
    split
    · rfl
    · exact returnTo_ready .disp rest _
  all_goals rfl

/-- No micro-step but CLRF's writes the flag. -/
theorem frameStep_ready {f : Frame} (hf : f ≠ .clrf) : (frameStep f rest s).ready = s.ready := by
  cases f with
  | rdyw l => cases l with
    | w8 => exact returnTo_ready .rdyw rest _
    | _ => rfl
  | cmdi l c => cases l with
    | c5 => exact returnTo_ready .cmdi rest _
    | _ => rfl
  | cmd l c => cases l with
    | k6 => exact returnTo_ready .cmd rest _
    | _ => rfl
  | dat l d => cases l with
    | t6 => exact returnTo_ready .dat rest _
    | _ => rfl
  | init l => exact initMicro_ready l
  | wint l => exact wintMicro_ready
  | rndr l => cases l <;> rfl
  | txb l b => cases l with
    | x0 => rfl
    | x1 => exact returnTo_ready .txb rest _
  | xpkt l => exact xpktMicro_ready l
  | clrf => exact absurd rfl hf
  | disp l => exact dispMicro_ready l
  | main l => rfl

end

/-- CLRF on top was there before MAIN could be woken: MAIN wakes to INIT or DISP. -/
theorem State.seq_of_wake_clrf {s : State} {rest : List Frame} (h : s.wake.seq = .clrf :: rest) :
    s.seq = .clrf :: rest := by
  unfold State.wake at h
  split at h
  next =>
    unfold mainStart callInit at h
    split at h <;> cases h
  next => cases h
  next => exact h

theorem State.wake_takeTurn_ready (s : State) : s.takeTurn.wake.ready = s.ready := s.takeTurn.wake_internal.ready

/-- A step leaves the flag alone but for two: the receive step of a fourth byte, which sets it, and CLRF's, in which it
falls. -/
theorem step_ready {s t : State} (h : step s = .next t) :
    t.ready = s.ready ∨
    (t.ready = true ∧ s.lcdIn = none ∧ s.rxidx = 3 ∧ ∃ b, s.nextTurn = .rx b) ∨
    (t.ready = false ∧ s.lcdIn = none ∧ s.nextTurn = .seq ∧ ∃ rest, s.seq = .clrf :: rest) := by
  rcases step_effect h with ⟨w, -, rfl⟩ | ⟨hl, b, hb, rfl⟩ | ⟨hl, hb, hq⟩
  · exact .inl rfl
  · by_cases h3 : s.rxidx = 3
    · exact .inr (.inl ⟨s.takeTurn.readyAfterByte_of_last h3, hl, h3, b, hb⟩)
    · exact .inl (s.takeTurn.readyAfterByte_of_not_last h3)
  · have hwake := s.wake_takeTurn_ready
    rcases hq with ⟨f, rest, hs, rfl⟩ | ⟨-, -, i, op, call, hr, rfl⟩ | ⟨-, rfl | rfl⟩
    · by_cases hf : f = .clrf
      · subst hf
        exact .inr (.inr ⟨returnTo_ready .clrf rest _, hl, hb, rest, State.seq_of_wake_clrf (s := s.takeTurn) hs⟩)
      · exact .inl ((frameStep_ready hf).trans hwake)
    · exact .inl ((accept_internal hr).ready.trans hwake)
    · exact .inl hwake
    · exact .inl hwake

/-- Settles O46, from the two steps that do not leave the flag alone. -/
theorem readyChangesOnlyByRxbAndClrf : Obligations.ReadyChangesOnlyByRxbAndClrf := by
  intro s t h
  rcases step_ready h with he | ⟨ht, hrx⟩ | ⟨ht, hclrf⟩
  · rw [he]
    exact ⟨fun h₁ h₂ => by simp [h₁] at h₂, fun h₁ h₂ => by simp [h₁] at h₂⟩
  · simpa [ht] using fun _ => hrx
  · simpa [ht] using fun _ => hclrf

/-! ## RXIDX (R22) -/

/-- The step in which a byte is received (R130, R165). -/
theorem step_byte {s : State} {b : Byte} (hl : s.lcdIn = none) (hb : s.nextTurn = .rx b) :
    step s = .next (s.takeTurn.storeByte b) := step_of_run (fetch_byte hl hb)

/-- Settles O27, by induction on the bytes that arrive. -/
theorem receiveIndexCountsModuloFour : Obligations.ReceiveIndexCountsModuloFour := by
  intro bs
  induction bs with
  | nil =>
    intro s t _ _ h
    cases h
    exact (Nat.mod_eq_of_lt s.rxidx.isLt).symm
  | cons b bs ih =>
    intro s t hl hturns h
    have hb : s.nextTurn = .rx b := Tape.head_of_given _ _ _ _ hturns
    have hrest : (s.takeTurn.storeByte b).turns.given = bs.map .rx := by
      simp only [State.storeByte_turns, State.takeTurn_turns, Tape.tail_of_given _ _ _ hturns]
    have hindex : (s.takeTurn.storeByte b).rxidx.toNat = (s.rxidx.toNat + 1) % 4 := s.takeTurn.indexAfterByte_eq
    simp only [List.length_cons, steps, step_byte hl hb] at h
    rw [ih (s.takeTurn.storeByte b) t hl hrest h, hindex, List.length_cons]
    omega

/-! ## The lines (R38) -/

theorem State.has_iff (s : State) (d : Dir) (rw e : Bool) :
    s.has d rw e = true ↔ s.dir = d ∧ s.rw = rw ∧ s.e = e := by
  simp only [State.has, Bool.and_eq_true, beq_iff_eq, and_assoc]

theorem State.writing_lines {s : State} {r : Bool} {b : Byte} {k : Nat} (h : s.writing r b k = true) :
    s.dir = .out ∧ s.rw = false := by
  simp only [State.writing, Bool.and_eq_true, State.has_iff] at h
  obtain ⟨⟨⟨hdir, hrw, -⟩, -⟩, -⟩ := h
  exact ⟨hdir, hrw⟩

/-- The three ways the lines can stand: driving the bus in write mode, with a pulse only inside an operation; in read
mode with `RS = 0`, with a pulse only while the bus is an input; and on the way from the one to the other, without a
pulse. -/
theorem State.Inv.lines_cases {s : State} (h : s.Inv) :
    (s.dir = .out ∧ s.rw = false ∧ (s.seq = [] → s.e = false)) ∨
    (s.seq ≠ [] ∧ s.rw = true ∧ s.rs = false ∧ (s.e = true → s.dir = .inp)) ∨
    (s.seq ≠ [] ∧ s.rw = false ∧ s.e = false) := by
  have hlines := h.lines
  unfold State.linesFit at hlines
  split at hlines
  -- `W0`, and the labels between transactions
  case h_1 | h_28 =>
    obtain ⟨hdir, hrw, he⟩ := (s.has_iff _ _ _).mp hlines
    exact .inl ⟨hdir, hrw, fun _ => he⟩
  -- `W1` to `W8`
  case h_2 | h_3 | h_4 | h_5 | h_6 | h_7 | h_8 | h_9 => simp_all [State.has_iff]
  -- the write phases of CMDI, CMD and DAT
  all_goals
    obtain ⟨hdir, hrw⟩ := State.writing_lines hlines
    exact .inl ⟨hdir, hrw, by simp_all⟩

/-- Settles O57, for each of the ways the lines can stand. -/
theorem lineCombinations : Obligations.LineCombinations := by
  intro s h
  rcases h.lines_cases with ⟨hdir, hrw, he⟩ | ⟨hs, hrw, hrs, hdir⟩ | ⟨hs, hrw, he⟩
  · simpa [hdir, hrw] using he
  · simpa [hs, hrw, hrs] using hdir
  · simp [hs, hrw, he]

/-! ## Reset (R36) -/

/-- Settles O48, value by value. -/
theorem resetValues : Obligations.ResetValues := by
  intro c
  refine ⟨rfl, rfl, rfl, rfl, rfl, rfl, ?autonomous, ?hosted⟩
  case autonomous => intro h; simp only [State.resetWith, h]
  case hosted => intro h; simp only [State.resetWith, h]

/-- Settles O54: nothing has happened, and nothing waits for the LCD agent. -/
theorem toldHoldsAtReset : Obligations.ToldHoldsAtReset := fun _ => ⟨rfl, rfl⟩

end Sys2Proof.Machine
end

section
/-! The receive step run four times from a packet boundary (R22, R55, R130). -/

namespace Sys2Proof.Machine

/-! ## One byte -/

/-- RXB is enabled in every state, and stores its byte (R130). -/
theorem exec_rxb (b : Byte) (s : State) : exec (.rxb b) s = .next (s.storeByte b) := rfl

/-- Within the packet a byte moves the index on and leaves the flag as it was. -/
theorem State.storeByte_of_not_last {s : State} {k : BitVec 2} (b : Byte) (h : s.rxidx = k) (hk : k ≠ 3) :
    (s.storeByte b).rxidx = k + 1 ∧ (s.storeByte b).ready = s.ready := by
  subst h
  exact ⟨if_neg hk, s.readyAfterByte_of_not_last hk⟩

/-- The byte that fills the packet returns the index to the boundary and sets the flag. -/
theorem State.storeByte_of_last {s : State} (b : Byte) (h : s.rxidx = 3) :
    (s.storeByte b).rxidx = 0 ∧ (s.storeByte b).ready = true :=
  ⟨if_pos h, s.readyAfterByte_of_last h⟩

/-! ## Four bytes -/

/-- Every place has been written, so nothing of the packet before is left. -/
theorem Packet.set_all (p : Packet) (b0 b1 b2 b3 : Byte) :
    (((p.set 0 b0).set 1 b1).set 2 b2).set 3 b3 = ⟨b0, b1, b2, b3⟩ := rfl

/-- Settles O26: the index takes the values 0, 1, 2 and 3, and only the last of them sets the flag. -/
theorem fourBytesMakePacket : Obligations.FourBytesMakePacket := by
  intro s b0 b1 b2 b3 index0
  obtain ⟨index1, ready1⟩ := State.storeByte_of_not_last b0 index0 (by decide)
  obtain ⟨index2, ready2⟩ := State.storeByte_of_not_last b1 index1 (by decide)
  obtain ⟨index3, ready3⟩ := State.storeByte_of_not_last b2 index2 (by decide)
  obtain ⟨index4, ready4⟩ := State.storeByte_of_last b3 index3
  refine ⟨_, _, _, _, exec_rxb b0 s, exec_rxb b1 _, exec_rxb b2 _, exec_rxb b3 _, ?packet, index4, ready4, ready1,
    ready2.trans ready1, (ready3.trans ready2).trans ready1⟩
  case packet =>
    rw [State.storeByte_pkt, index3, State.storeByte_pkt, index2, State.storeByte_pkt, index1, State.storeByte_pkt,
      index0]
    exact s.pkt.set_all b0 b1 b2 b3

end Sys2Proof.Machine
end

section
/-! The words of each format (R81 to R87, R91): the fields of a request word, the shapes of a bus word, and decoding as
the inverse of encoding. -/

namespace Sys2Proof.Machine

/-! ## The request word (R81 to R83) -/

section
variable {intw arg : Nat}

theorem decode_opreqWord (intw op arg : Nat) :
    decode intw (opreqWord intw op arg) = decodeOpreq intw (opreqWord intw op arg).bits := rfl

theorem opreqWord_bits (intw op arg : Nat) : (opreqWord intw op arg).bits = op * 2 ^ intw + arg := rfl

@[simp] theorem opField_opreqWord (op : Nat) (h : arg < 2 ^ intw) : opField intw (opreqWord intw op arg).bits = op := by
  rw [opField, opreqWord_bits, Nat.add_comm, Nat.add_mul_div_right _ _ (Nat.two_pow_pos intw), Nat.div_eq_of_lt h,
    Nat.zero_add]

@[simp] theorem argField_opreqWord (op : Nat) (h : arg < 2 ^ intw) :
    argField intw (opreqWord intw op arg).bits = arg := by
  rw [argField, opreqWord_bits, Nat.mul_add_mod_self_right, Nat.mod_eq_of_lt h]

@[simp] theorem byteOperand_opreqWord (op : Nat) (h : arg < 2 ^ intw) :
    byteOperand intw (opreqWord intw op arg).bits = BitVec.ofNat 8 arg := by
  rw [byteOperand, argField_opreqWord op h]

/-- A word with an operation code of four bits fits the `4 + INTW` wires of the request port (R15, R81). -/
theorem portRequest_of_opField {w : Nat} (h : opField intw w < 16) : portRequest intw w = ⟨.opreq, w⟩ := by
  have hw : w < 2 ^ (4 + intw) := by
    rw [Nat.pow_add]
    exact (Nat.div_lt_iff_lt_mul (Nat.two_pow_pos intw)).mp h
  rw [portRequest, Nat.mod_eq_of_lt hw]

theorem opField_lt_of_decodeOpreq {w : Nat} {i : Instr} (h : decodeOpreq intw w = .ok i) : opField intw w < 16 := by
  unfold decodeOpreq at h
  split at h <;> cases h
  all_goals omega

end

/-- Settles O2: the code is the word's quotient by `2^INTW` and the operand its remainder, whatever the code ignores. -/
theorem requestOperands : Obligations.RequestOperands := by
  intro intw arg h
  simp [decode_opreqWord, decodeOpreq, h]

/-! ## The bus word (R84, R85, R93) -/

theorem decodeLcdbus_busWord (rs rw : Bool) (db : Byte) :
    decodeLcdbus (busWord rs rw db).toNat =
      if rw then (if rs then .error .readOfDisplayData else .ok (.lcdRdstat db))
      else (if rs then .ok (.lcdWrdata db) else .ok (.lcdWrcmd db)) := by
  have hdb : db.toNat < 2 ^ 8 := db.isLt
  have hshape : (busWord rs rw db).toNat / 2 ^ 8 = 2 * rs.toNat + rw.toNat := by rw [busWord_toNat]; omega
  have hbyte : BitVec.ofNat 8 (busWord rs rw db).toNat = db := by
    rw [← BitVec.toNat_inj, BitVec.toNat_ofNat, busWord_toNat, Nat.mul_add_mod_self_right, Nat.mod_eq_of_lt hdb]
  rw [decodeLcdbus, hshape, hbyte]
  cases rs <;> cases rw <;> rfl

/-- Settles O3: the two top bits choose the shape. -/
theorem busWordShapes : Obligations.BusWordShapes := decodeLcdbus_busWord

/-! ## Decoding and encoding -/

/-- Settles O1, format by format: the operand of a request word comes back where it fits `arg`, a bus word's and a
received byte's always, and the six command bytes have their own codes. -/
theorem decodeEncode : Obligations.DecodeEncode := by
  intro intw i hwf
  cases i
  -- request words with an operand
  case cmdi b | cmd b | dat b | txb b =>
    have hb : b.toNat < 2 ^ intw := of_decide_eq_true hwf
    simp [encode, decode_opreqWord, decodeOpreq, hb]
  case wint n =>
    have hn : n < 2 ^ intw := of_decide_eq_true hwf
    simp [encode, decode_opreqWord, decodeOpreq, hn]
  -- bus words
  case lcdWrcmd c => exact decodeLcdbus_busWord false false c
  case lcdWrdata d => exact decodeLcdbus_busWord true false d
  case lcdRdstat b => exact decodeLcdbus_busWord false true b
  -- command bytes
  case fset8 | fset8TwoLine | entryInc | clear | dispOnCb | ddramL2 => rfl
  -- received bytes
  case rxb b => exact decodeRxev_byte b
  -- request words without an operand
  all_goals simp [encode, decode_opreqWord, decodeOpreq]

/-- Settles O4, by running the decoder on each word. -/
theorem writtenWordsDecode : Obligations.WrittenWordsDecode := ⟨rfl, rfl, rfl, rfl, rfl, rfl, rfl, rfl⟩

/-! ## Reserved codes and command bytes -/

/-- Settles O10, code by code. -/
theorem reservedCodesAreRefused : Obligations.ReservedCodesAreRefused := fun _ => ⟨rfl, rfl, rfl, rfl, rfl⟩

/-- A command byte with a name does what the bus write of that byte does (R87). -/
theorem exec_namedCommandByte {w : Nat} {i : Instr} (h : decodeLcdcmd w = .ok i) (s : State) :
    exec i s = exec (.lcdWrcmd (BitVec.ofNat 8 w)) s := by
  unfold decodeLcdcmd at h
  split at h
  case h_7 => split at h <;> cases h
  all_goals cases h; rfl

/-- Settles O30: each of the six is the name of its byte. -/
theorem commandBytesAreBusWrites : Obligations.CommandBytesAreBusWrites := fun s =>
  ⟨exec_namedCommandByte rfl s, exec_namedCommandByte rfl s, exec_namedCommandByte rfl s, exec_namedCommandByte rfl s,
    exec_namedCommandByte rfl s, exec_namedCommandByte rfl s⟩

/-- A byte that is none of the six has no name (R87). -/
theorem decodeLcdcmd_other {c : Byte} (hc : c ∉ [0x30, 0x38, 0x06, 0x01, 0x0F, 0xC0]) :
    decodeLcdcmd c.toNat = .error .unnamedCommandByte := by
  simp only [List.mem_cons, List.not_mem_nil, or_false, not_or, ← BitVec.toNat_inj] at hc
  unfold decodeLcdcmd
  split
  case h_7 => exact if_pos c.isLt
  all_goals simp_all

/-- Taken at its word or not, a write of a byte that is none of the six leaves an unknown view: it neither acts on a
known view nor ends an unknown one (R159). -/
theorem Lcd.takeAnyCommand_other_view (cols : Nat) {c : Byte} (l : Lcd)
    (hc : c ∉ [0x30, 0x38, 0x06, 0x01, 0x0F, 0xC0]) : (l.takeAnyCommand cols c).view = .unknown := by
  have hclear : l.clearsAfterInit c = false := by
    have hne : c ≠ lcdClear := by rintro rfl; simp [lcdClear] at hc
    simp [Lcd.clearsAfterInit, hne]
  have hinit : l.completesInit c = false := by
    have hne : c ≠ lcdDispOnCb := by rintro rfl; simp [lcdDispOnCb] at hc
    simp [← Bool.not_eq_true, l.completesInit_iff, hne]
  simp only [Lcd.takeAnyCommand, decodeLcdcmd_other hc]
  cases hview : l.view with
  | known k => simp [Lcd.takeCommand_known _ _ _ _ hview, View.update]
  | unknown => simp [Lcd.takeCommand_unknown _ _ _ _ hview, Lcd.revived, hclear, hinit]

/-- Settles O33, from what such a write leaves of the view. -/
theorem otherCommandByteMakesViewUnknown : Obligations.OtherCommandByteMakesViewUnknown :=
  fun s _ hc => ⟨_, rfl, s.lcd.takeAnyCommand_other_view s.cfg.lcdCols hc⟩

end Sys2Proof.Machine
end

section
/-! A table row's word presented to the block: each format's word is on the port where the next step fetches it (R81,
R85, R87, R91). -/

namespace Sys2Proof.Machine

/-- The row found is a word of a format that was tried, and decodes in it. -/
theorem decode_of_tableRow {w : Nat} {p : PortWord} {i : Instr} {fs : List Format} (h : tableRow w fs = some (p, i)) :
    ∃ f ∈ fs, p = ⟨f, w⟩ ∧ decode 32 ⟨f, w⟩ = .ok i := by
  induction fs with
  | nil => cases h
  | cons f fs ih =>
    unfold tableRow at h
    split at h
    next hd =>
      cases h
      exact ⟨f, List.mem_cons_self, rfl, hd⟩
    next =>
      obtain ⟨g, hg, hrow⟩ := ih h
      exact ⟨g, List.mem_cons_of_mem f hg, hrow⟩

/-- No row of the table is a status byte by itself (R86). -/
theorem lcdstat_not_mem_tableFormats (nbits : Nat) : Format.lcdstat ∉ tableFormats nbits := by
  unfold tableFormats
  split_ifs <;> decide

/-- A row's word is presented in the format in which it decodes. -/
theorem withFetchWord_of_decodeTableWord {nbits w : Nat} {i : Instr} (h : decodeTableWord nbits w = some i) :
    ∃ f ≠ .lcdstat, (∀ s : State, s.withFetchWord nbits w = s.present ⟨f, w⟩) ∧ decode 32 ⟨f, w⟩ = .ok i := by
  obtain ⟨⟨p, j⟩, hrow, rfl⟩ := Option.map_eq_some_iff.mp h
  obtain ⟨f, hf, rfl, hd⟩ := decode_of_tableRow hrow
  have hformat : f ≠ .lcdstat := fun he => lcdstat_not_mem_tableFormats nbits (he ▸ hf)
  exact ⟨f, hformat, fun s => by simp only [State.withFetchWord, hrow], hd⟩

section
variable {s : State} {w : Nat} {i : Instr}

theorem step_presentRequest (hd : decodeOpreq 32 w = .ok i) :
    step (s.presentRequest w) =
      exec i { s with cfg := { s.cfg with top := .hosted, intw := 32 }, seq := [], lcdIn := none } := by
  have hport : decode 32 (portRequest 32 w) = .ok i := by
    rw [portRequest_of_opField (opField_lt_of_decodeOpreq hd)]
    exact hd
  exact step_of_run ((fetch_seq (s := s.presentRequest w) rfl rfl).trans (fetchSeq_request rfl rfl rfl hport))

theorem step_presentBusWord {v : BusWord} (hd : decodeLcdbus v.toNat = .ok i) :
    step (s.presentBusWord v) = exec i (s.presentBusWord v) := step_of_run (fetch_busWord rfl hd)

/-- A word that decodes has no bit above the ten (R84). -/
theorem toNat_ofNat_of_decodeLcdbus (hd : decodeLcdbus w = .ok i) : (BitVec.ofNat 10 w).toNat = w := by
  have hw : w < 2 ^ 10 := by
    unfold decodeLcdbus at hd
    split at hd
    case h_4 | h_5 => cases hd
    all_goals omega
  rw [BitVec.toNat_ofNat, Nat.mod_eq_of_lt hw]

theorem step_presentByte (s : State) (b : Byte) : step (s.presentByte b) = exec (.rxb b) { s with lcdIn := none } :=
  step_of_run (fetch_byte (s := s.presentByte b) rfl rfl)

end

/-- Settles O6, format by format. -/
theorem presentedWordRunsNext : Obligations.PresentedWordRunsNext := by
  intro s nbits w i h
  obtain ⟨f, hf, hpresent, hd⟩ := withFetchWord_of_decodeTableWord h
  rw [hpresent]
  cases f with
  | opreq =>
    simp only [decode] at hd
    refine (step_presentRequest hd).trans ?_
    unfold decodeOpreq at hd
    split at hd <;> cases hd <;> rfl
  | lcdbus =>
    simp only [decode] at hd
    refine (step_presentBusWord (by rwa [toNat_ofNat_of_decodeLcdbus hd])).trans ?_
    unfold decodeLcdbus at hd
    split at hd <;> cases hd <;> rfl
  | lcdcmd =>
    simp only [decode] at hd
    refine (step_presentBusWord (decodeLcdbus_busWord false false _)).trans ?_
    refine (exec_namedCommandByte hd _).symm.trans ?_
    unfold decodeLcdcmd at hd
    split at hd
    case h_7 => split at hd <;> cases hd
    all_goals cases hd; rfl
  | rxev =>
    simp only [decode, decodeRxev] at hd
    split at hd <;> cases hd
    exact step_presentByte s _
  | lcdstat => exact absurd rfl hf

end Sys2Proof.Machine
end

section
/-! Runs of the sequencer: a ready-wait (R111) and the write phase of a DAT (R114), through the LCD agent's steps. -/

namespace Sys2Proof.Machine

/-- A run that goes on from where a shorter one ends. -/
theorem steps_add {s t : State} {k : Nat} (m : Nat) (h : steps k s = .next t) : steps (m + k) s = steps m t := by
  induction k generalizing s with
  | zero => cases h; rfl
  | succ k ih =>
    simp only [steps, Nat.add_eq] at h ⊢
    cases hstep : step s with
    | next u => exact ih (by rwa [hstep] at h)
    | fault r => rw [hstep] at h; cases h
    | refused r => rw [hstep] at h; cases h

/-- `s` with the stack `fs`, nothing on its way to the LCD, the turns `ts` and the samples `bs` to come. -/
def State.running (fs : List Frame) (ts : List Turn) (bs : List Byte) (s : State) : State :=
  { s with
    seq := fs, lcdIn := none
    turns := { s.turns with given := ts }
    samples := { s.samples with given := bs } }

/-- On its turn the sequencer's top frame takes its micro-step. -/
theorem steps_running {s t : State} {f : Frame} {rest : List Frame} {ts : List Turn} {bs : List Byte} {i : Instr}
    (k : Nat) (hi : frameInstr s.n f = some i) (ht : frameStep f rest (s.running (f :: rest) ts bs) = t) :
    steps (k + 1) (s.running (f :: rest) (.seq :: ts) bs) = steps k t := by
  have hfetch : fetch (s.running (f :: rest) (.seq :: ts) bs) = .run i (s.running (f :: rest) ts bs) :=
    (fetch_seq rfl rfl).trans (fetchSeq_frame rfl hi)
  have hstep : step (s.running (f :: rest) (.seq :: ts) bs) = .next t := by
    rw [step_of_run hfetch, exec_frameInstr rfl hi, ht]
  simp only [steps, hstep]

/-- The LCD agent takes in the status read that waits for it. -/
theorem steps_takeStatus {s : State} {b : Byte} (k : Nat) (hl : s.lcdIn = some (busWord false true b)) :
    steps (k + 1) s = steps k (s.lcdTake (Lcd.takeStatus b)) := by
  have hstep : step s = .next (s.lcdTake (Lcd.takeStatus b)) := step_of_run (fetch_busWord hl (decodeLcdbus_status b))
  simp only [steps, hstep]

/-- The LCD agent takes in the data write that waits for it. -/
theorem steps_takeData {s : State} {d : Byte} (k : Nat) (hl : s.lcdIn = some (busWord true false d)) :
    steps (k + 1) s = steps k (s.lcdTake (Lcd.takeData s.cfg.lcdCols d)) := by
  have hstep : step s = .next (s.lcdTake (Lcd.takeData s.cfg.lcdCols d)) :=
    step_of_run (fetch_busWord hl (decodeLcdbus_busWord true false d))
  simp only [steps, hstep]

/-! ## The ready-wait (R111) -/

/-- What the pulses with the samples `bs` leave of the lines, of `S`, of the trace and of the LCD agent. -/
def State.sampled (bs : List Byte) (s : State) : State :=
  { s with
    e := s.e && bs.isEmpty
    stat := bs.getLast?.getD s.stat
    trace := s.trace ++ bs.flatMap (sampleEvents s.cfg.tPulse)
    lcd := s.lcd.takeAll s.cfg.lcdCols (bs.map .rdstat) }

theorem State.sampled_nil (s : State) : s.sampled [] = s := by
  simp [State.sampled, Lcd.takeAll]

/-- One pulse, action by action. -/
theorem State.sampled_singleton (b : Byte) (s : State) :
    s.sampled [b] =
      { s with
        e := false, stat := b
        trace := s.trace ++ [.en true] ++ [.delay s.cfg.tPulse] ++ [.sample b] ++ [.en false]
        lcd := s.lcd.takeStatus b } := by
  simp [State.sampled, sampleEvents, Lcd.takeAll, Lcd.take]

theorem State.sampled_cons (b : Byte) (bs : List Byte) (s : State) :
    s.sampled (b :: bs) = (s.sampled [b]).sampled bs := by
  simp [State.sampled, Lcd.takeAll, List.getLast?_cons]

theorem State.sampled_append (bs cs : List Byte) (s : State) :
    s.sampled (bs ++ cs) = (s.sampled bs).sampled cs := by
  induction bs generalizing s with
  | nil => rw [List.nil_append, State.sampled_nil]
  | cons b bs ih => rw [List.cons_append, State.sampled_cons, ih, ← State.sampled_cons]

/-- What a whole ready-wait leaves (R111). -/
def State.readyWaited (r : Read) (s : State) : State :=
  { s with
    dir := .out, rs := false, rw := false, e := false, stat := r.last
    trace := s.trace ++ rdywEvents s.cfg.tPulse r
    lcd := s.lcd.takeAll s.cfg.lcdCols r.txns }

/-- The address phase, the samples, and the way back to write mode. -/
theorem State.readyWaited_eq (r : Read) (s : State) :
    s.readyWaited r =
      ((((((s.driveDir .inp).driveRs false).driveRw true).sampled r.bytes).driveDir .out).driveRw false) := by
  simp [State.readyWaited, State.sampled, State.driveDir, State.driveRs, State.driveRw, rdywEvents, Read.bytes,
    Read.txns]

section
variable (s : State) (rest : List Frame) (ts : List Turn) (bs : List Byte)

/-- `W0` to `W2`. -/
theorem steps_startReading :
    steps 3 (s.running (.rdyw .w0 :: rest) (.seq :: .seq :: .seq :: ts) bs) =
      .next ((((s.driveDir .inp).driveRs false).driveRw true).running (.rdyw .w3 :: rest) ts bs) := calc
  _ = steps 2 ((s.driveDir .inp).running (.rdyw .w1 :: rest) (.seq :: .seq :: ts) bs) := steps_running 2 rfl rfl
  _ = steps 1 (((s.driveDir .inp).driveRs false).running (.rdyw .w2 :: rest) (.seq :: ts) bs) := steps_running 1 rfl rfl
  _ = _ := steps_running 0 rfl rfl

/-- `W7` and `W8`. -/
theorem steps_stopReading :
    steps 2 (s.running (.rdyw .w7 :: rest) (.seq :: .seq :: ts) bs) =
      .next (returnTo .rdyw rest (((s.driveDir .out).driveRw false).running (.rdyw .w8 :: rest) ts bs)) := calc
  _ = steps 1 ((s.driveDir .out).running (.rdyw .w8 :: rest) (.seq :: ts) bs) := steps_running 1 rfl rfl
  _ = _ := steps_running 0 rfl rfl

/-- `W3` to `W6`: the pulse, the sample in it, and the LCD agent's step after the sample. -/
theorem steps_readySample (b : Byte) (hrw : s.rw = true) :
    steps 5 (s.running (.rdyw .w3 :: rest) (.seq :: .seq :: .seq :: .seq :: ts) (b :: bs)) =
      .next ((s.sampled [b]).running (.rdyw (if busyFlag b then .w3 else .w7) :: rest) ts bs) := by
  calc
    _ = steps 4 (s.raiseE.running (.rdyw .w4 :: rest) (.seq :: .seq :: .seq :: ts) (b :: bs)) :=
      steps_running 4 rfl rfl
    _ = steps 3 ((s.raiseE.delay s.cfg.tPulse).running (.rdyw .w5 :: rest) (.seq :: .seq :: ts) (b :: bs)) :=
      steps_running 3 rfl rfl
    _ = steps 2 ((s.raiseE.delay s.cfg.tPulse).running (.rdyw .w6 :: rest) (.seq :: ts) (b :: bs)).sample :=
      steps_running 2 rfl rfl
    _ = steps 1 (({ s with
          e := true, stat := b
          trace := s.trace ++ [.en true] ++ [.delay s.cfg.tPulse] ++ [.sample b]
          lcd := s.lcd.takeStatus b } : State).running (.rdyw .w6 :: rest) (.seq :: ts) bs) :=
      steps_takeStatus 1 rfl
    _ = _ := by
      rw [State.sampled_singleton]
      cases s
      cases hrw
      exact steps_running 0 rfl rfl

/-- The loop stays where it is as long as the samples are busy. -/
theorem steps_busySamples (busy : List Byte) (hbusy : ∀ b ∈ busy, busyFlag b = true) (hrw : s.rw = true) :
    steps (5 * busy.length)
        (s.running (.rdyw .w3 :: rest) (List.replicate (4 * busy.length) .seq ++ ts) (busy ++ bs)) =
      .next ((s.sampled busy).running (.rdyw .w3 :: rest) ts bs) := by
  induction busy generalizing s with
  | nil => rw [State.sampled_nil]; rfl
  | cons b busy ih =>
    obtain ⟨hb, hbusy⟩ := List.forall_mem_cons.mp hbusy
    have hfirst := steps_readySample s rest (List.replicate (4 * busy.length) .seq ++ ts) (busy ++ bs) b hrw
    rw [if_pos hb] at hfirst
    rw [State.sampled_cons, ← ih (s.sampled [b]) hbusy hrw]
    exact steps_add (5 * busy.length) hfirst

/-- The turns of a ready-wait: three to start, four a sample, two to leave. -/
theorem Read.replicate_turns (r : Read) :
    List.replicate r.turns Turn.seq ++ ts =
      .seq :: .seq :: .seq :: (List.replicate (4 * r.busy.length) .seq ++
        .seq :: .seq :: .seq :: .seq :: .seq :: .seq :: ts) := by
  have hturns : r.turns = 3 + (4 * r.busy.length + 6) := by rw [Read.turns]; omega
  rw [hturns, List.replicate_add, List.replicate_add, List.append_assoc, List.append_assoc]
  rfl

/-- A whole ready-wait, the LCD agent's steps among its own. -/
theorem steps_rdyw {r : Read} (hr : r.Live) :
    steps (r.turns + r.bytes.length)
        (s.running (.rdyw .w0 :: rest) (List.replicate r.turns .seq ++ ts) (r.bytes ++ bs)) =
      .next (returnTo .rdyw rest ((s.readyWaited r).running (.rdyw .w8 :: rest) ts bs)) := by
  obtain ⟨hbusy, hlast⟩ := hr
  have hcount : r.turns + r.bytes.length = 2 + 5 + 5 * r.busy.length + 3 := by
    rw [Read.turns, Read.bytes, List.length_append, List.length_singleton]; omega
  rw [hcount, r.replicate_turns, Read.bytes, List.append_assoc, steps_add _ (steps_startReading ..),
    steps_add _ (steps_busySamples _ _ _ _ _ hbusy rfl), List.singleton_append,
    steps_add _ (steps_readySample _ _ _ _ _ rfl), hlast, ← State.sampled_append, State.readyWaited_eq]
  exact steps_stopReading ..

end

/-! ## A DAT (R114) -/

/-- What the write of a data byte leaves. -/
def State.dataWritten (d : Byte) (s : State) : State :=
  { s with
    rs := true, rw := false, e := false, dbo := d
    trace := s.trace ++ writeEvents s.cfg.tPulse true d
    lcd := s.lcd.takeData s.cfg.lcdCols d }

/-- The same action by action. -/
theorem State.dataWritten_eq (d : Byte) (s : State) :
    s.dataWritten d =
      { s with
        rs := true, rw := false, e := false, dbo := d
        trace := s.trace ++ [.rs true] ++ [.rw false] ++ [.bus d] ++ [.en true] ++ [.delay s.cfg.tPulse] ++ [.en false]
        lcd := s.lcd.takeData s.cfg.lcdCols d } := by
  simp [State.dataWritten, writeEvents]

/-- The six actions of the write, up to the falling edge that sends the byte on its way to the LCD. -/
theorem steps_writeData (s : State) (d : Byte) (rest : List Frame) (ts : List Turn) (bs : List Byte) :
    steps 6 (s.running (.dat .t1 d :: rest) (List.replicate 6 .seq ++ ts) bs) =
      .next (returnTo .dat rest
        (((((s.driveRs true).driveRw false).driveBus d).raiseE.delay s.cfg.tPulse).running
          (.dat .t6 d :: rest) ts bs).lowerE) := calc
  _ = steps 5 ((s.driveRs true).running (.dat .t2 d :: rest) (List.replicate 5 .seq ++ ts) bs) :=
    steps_running 5 rfl rfl
  _ = steps 4 (((s.driveRs true).driveRw false).running (.dat .t3 d :: rest) (List.replicate 4 .seq ++ ts) bs) :=
    steps_running 4 rfl rfl
  _ = steps 3 ((((s.driveRs true).driveRw false).driveBus d).running (.dat .t4 d :: rest)
        (List.replicate 3 .seq ++ ts) bs) := steps_running 3 rfl rfl
  _ = steps 2 ((((s.driveRs true).driveRw false).driveBus d).raiseE.running (.dat .t5 d :: rest)
        (List.replicate 2 .seq ++ ts) bs) := steps_running 2 rfl rfl
  _ = steps 1 (((((s.driveRs true).driveRw false).driveBus d).raiseE.delay s.cfg.tPulse).running (.dat .t6 d :: rest)
        (List.replicate 1 .seq ++ ts) bs) := steps_running 1 rfl rfl
  _ = _ := steps_running 0 rfl rfl

/-- A DAT that nothing called, with the LCD agent's step after the falling edge. -/
theorem steps_writeData_toIdle (s : State) (d : Byte) (ts : List Turn) (bs : List Byte) :
    steps 7 (s.running [.dat .t1 d] (List.replicate 6 .seq ++ ts) bs) =
      .next (((s.dataWritten d).emit (.opDone .dat)).running [] ts bs) := by
  rw [show 7 = 1 + 6 from rfl, steps_add 1 (steps_writeData s d [] ts bs), steps_takeData 0 rfl,
    State.dataWritten_eq]
  simp only [steps, State.lcdTake, returnTo, State.setSeq, State.emit, State.lowerE, State.running, State.delay,
    State.raiseE, State.driveBus, State.driveRw, State.driveRs]

theorem returnTo_rdyw_dat (s : State) (d : Byte) (fs rest : List Frame) (ts : List Turn) (bs : List Byte) :
    returnTo .rdyw (.dat .t0 d :: rest) (s.running fs ts bs) = s.running (.dat .t1 d :: rest) ts bs := rfl

/-- A DAT that nothing called, from its ready-wait to its end. -/
theorem steps_dat_toIdle (s : State) (d : Byte) {r : Read} (hr : r.Live) (ts : List Turn) (bs : List Byte) :
    steps r.writeSteps
        (s.running [.rdyw .w0, .dat .t0 d] (List.replicate r.writeTurns .seq ++ ts) (r.bytes ++ bs)) =
      .next ((((s.readyWaited r).dataWritten d).emit (.opDone .dat)).running [] ts bs) := by
  have hcount : r.writeSteps = 7 + (r.turns + r.bytes.length) := by
    rw [Read.writeSteps, Read.writeTurns]; omega
  rw [hcount, Read.writeTurns, List.replicate_add, List.append_assoc,
    steps_add 7 (steps_rdyw s [.dat .t0 d] _ bs hr), returnTo_rdyw_dat, steps_writeData_toIdle]

end Sys2Proof.Machine
end

section
/-! writeText from a host (R95, R121): one request word a character, each run to its end before the next is taken. -/

namespace Sys2Proof.Machine

/-- What a host's request for DAT leaves once it has been served. -/
def State.datServed (r : Read) (d : Byte) (s : State) : State :=
  { s with
    dir := .out, rs := true, rw := false, e := false, dbo := d, v := d, stat := r.last
    trace := s.trace ++ ([.opStart .dat] ++ datEvents s.cfg.tPulse r d ++ [.opDone .dat])
    lcd := s.lcd.takeAll s.cfg.lcdCols (datTxns r d) }

/-- The request accepted, the ready-wait, the write, and the end. -/
theorem State.datServed_eq (r : Read) (d : Byte) (s : State) :
    s.datServed r d =
      (((((s.emit (.opStart .dat)).setV d).readyWaited r).dataWritten d).emit (.opDone .dat)) := by
  simp [State.datServed, State.readyWaited, State.dataWritten, State.emit, State.setV, datEvents, datTxns, Lcd.takeAll,
    Lcd.take]

/-- What the port carries of DAT's word is the whole of it, so it decodes to that DAT (R81, R83). -/
theorem decode_portRequest_encode_dat {intw : Nat} (hw : 8 ≤ intw) (d : Byte) :
    decode intw (portRequest intw (encode intw (.dat d)).bits) = .ok (.dat d) := by
  have hd : d.toNat < 2 ^ intw := Laws.lt_wider hw d.isLt
  have hop : opField intw (encode intw (.dat d)).bits < 16 := by
    rw [encode, opField_opreqWord _ hd]; decide
  rw [portRequest_of_opField hop]
  exact decodeEncode intw (.dat d) (decide_eq_true hd)

/-- The accepting step of a host's request for DAT (R142). -/
theorem steps_acceptDat {s : State} {d : Byte} {os : List (Option Nat)} {ts : List Turn} {bs : List Byte} (k : Nat)
    (hidle : s.Idle) (hhosted : s.cfg.top = .hosted) (hw : 8 ≤ s.cfg.intw)
    (ho : s.host.given = some (encode s.cfg.intw (.dat d)).bits :: os) (ht : s.turns.given = .seq :: ts)
    (hb : s.samples.given = bs) :
    steps (k + 1) s = steps k
      (((({ s with host := { s.host with given := os } } : State).emit (.opStart .dat)).setV d).running
        [.rdyw .w0, .dat .t0 d] ts bs) := by
  obtain ⟨hs, hl⟩ := hidle
  obtain ⟨-, -, -, hrequest⟩ := stepRunsDecodedInstruction s (.dat d)
  have hstep : step s = .next (s.takeTurn.takeOffer.accept .dat (callDat d)) :=
    (hrequest hl (Tape.head_of_given _ _ _ _ ht) hs hhosted _ (Tape.head_of_given _ _ _ _ ho)
      (decode_portRequest_encode_dat hw d)).trans (exec_request hs rfl)
  have hoffer : s.host.tail = { s.host with given := os } := Tape.tail_of_given _ _ _ ho
  have hturn : s.turns.tail = { s.turns with given := ts } := Tape.tail_of_given _ _ _ ht
  subst hb
  simp only [steps, hstep, State.accept, callDat, callRdyw, State.goto, State.setSeq, State.emit, State.setV,
    State.takeOffer, State.takeTurn, hoffer, hturn, State.running, hl]

/-- One request for DAT, from its accepting step to its end. -/
theorem steps_hostedDat {s : State} {d : Byte} {r : Read} {os : List (Option Nat)} {ts : List Turn} {bs : List Byte}
    (hidle : s.Idle) (hhosted : s.cfg.top = .hosted) (hw : 8 ≤ s.cfg.intw) (hr : r.Live)
    (hb : s.samples.given = r.bytes ++ bs) (ho : s.host.given = some (encode s.cfg.intw (.dat d)).bits :: os)
    (ht : s.SeqTurns (r.writeTurns + 1) ts) :
    steps (r.writeSteps + 1) s =
      .next ((({ s with host := { s.host with given := os } } : State).datServed r d).running [] ts bs) := by
  have hturn : s.turns.given = .seq :: (List.replicate r.writeTurns .seq ++ ts) := ht
  rw [steps_acceptDat r.writeSteps hidle hhosted hw ho hturn hb, steps_dat_toIdle _ d hr ts bs, State.datServed_eq]

theorem Lcd.takeAll_append (cols : Nat) (ts us : List Txn) (l : Lcd) :
    l.takeAll cols (ts ++ us) = (l.takeAll cols ts).takeAll cols us := List.foldl_append

/-- Settles O19, by induction on the text: the first character's request is served, and leaves an idle sequencer whose
host presents the rest. -/
theorem hostedTextIsWritten : Obligations.HostedTextIsWritten := by
  intro s ds
  induction ds generalizing s with
  | nil =>
    intro rs bs os ts ⟨hs, hl⟩ hhosted hw hlen ⟨hlive, hsamples⟩ ho hturns
    obtain rfl := List.length_eq_zero_iff.mp hlen
    have hturns : s.turns.given = ts := hturns
    have hsamples : s.samples.given = bs := hsamples
    have ho : s.host.given = os := ho
    subst hturns hsamples ho
    refine ⟨s, rfl, ?_, fun h => absurd rfl h, fun _ => ⟨rfl, rfl, rfl, rfl, rfl, rfl, rfl⟩⟩
    simp [textTxns, Lcd.takeAll]
  | cons d ds ih =>
    intro rs bs os ts hidle hhosted hw hlen ⟨hlive, hsamples⟩ ho hturns
    obtain ⟨r, rs, rfl⟩ := List.exists_cons_of_length_eq_add_one hlen
    obtain ⟨hr, hrs⟩ := List.forall_mem_cons.mp hlive
    have hturns' : s.SeqTurns (r.writeTurns + 1)
        (List.replicate (ds.length + (rs.map Read.writeTurns).sum) .seq ++ ts) := by
      rw [State.SeqTurns, ← List.append_assoc, ← List.replicate_add, hturns]
      simp only [List.length_cons, List.map_cons, List.sum_cons]
      congr 2
      omega
    have hsamples' : s.samples.given = r.bytes ++ (rs.flatMap Read.bytes ++ bs) := by
      rw [hsamples, List.flatMap_cons, List.append_assoc]
    have hserved := steps_hostedDat hidle hhosted hw hr hsamples' ho hturns'
    obtain ⟨u, hu, hrecord, hlines, hempty⟩ := ih
      ((({ s with
          host := { s.host with given := ((expandWtxt ds).map fun i => some (encode s.cfg.intw i).bits) ++ os } } :
        State).datServed r d).running [] _ _)
      rs bs os ts ⟨rfl, rfl⟩ hhosted hw (Nat.succ.inj hlen) ⟨hrs, rfl⟩ rfl rfl
    refine ⟨u, ?run, ?record, ?lines, fun h => absurd h (List.cons_ne_nil d ds)⟩
    case run =>
      have hcount : (d :: ds).length + ((r :: rs).map Read.writeSteps).sum =
          ds.length + (rs.map Read.writeSteps).sum + (r.writeSteps + 1) := by
        simp only [List.length_cons, List.map_cons, List.sum_cons]; omega
      rw [hcount, ← hu]
      exact steps_add _ hserved
    case record =>
      refine hrecord.trans ?_
      simp only [State.running, State.datServed, hidle.1, hidle.2, textTxns, List.zipWith_cons_cons, List.flatten_cons,
        Lcd.takeAll_append, List.append_assoc]
    case lines =>
      intro _
      by_cases hds : ds = []
      · obtain ⟨hdir, hrs, hrw, he, hdbo, -⟩ := hempty hds
        exact ⟨hdir, hrs, hrw, he, by rw [hdbo, hds]; rfl⟩
      · obtain ⟨hdir, hrs, hrw, he, hdbo⟩ := hlines hds
        exact ⟨hdir, hrs, hrw, he, by rw [List.getLast?_cons, ← hdbo]; rfl⟩

end Sys2Proof.Machine
end

section
/-! What a step does to the LCD lines, to the transaction that waits for the LCD agent, and to the scan of the trace
(R116): the one visible action of the top frame, and around it internal computation, which the LCD does not see. -/

namespace Sys2Proof.Machine

/-! ## The scan of a trace (R116) -/

theorem transactions_append (gaps : Bool) (xs ys : List Event) (l : Lines) :
    transactions gaps l (xs ++ ys) = transactions gaps l xs ++ transactions gaps (l.afterAll xs) ys := by
  induction xs generalizing l with
  | nil => rfl
  | cons x xs ih =>
    rw [List.cons_append, transactions, ih, ← List.append_assoc]
    rfl

theorem Lines.afterAll_append (l : Lines) (xs ys : List Event) :
    l.afterAll (xs ++ ys) = (l.afterAll xs).afterAll ys := List.foldl_append

/-- What a scan of the trace from reset gives: the lines, and the plain transaction trace. -/
def State.scan (s : State) : Lines × List Txn :=
  (resetLines.afterAll s.trace, transactions false resetLines s.trace)

theorem State.scan_snoc {s t : State} {ev : Event} (ht : t.trace = s.trace ++ [ev]) :
    t.scan = (s.scan.1.after ev, s.scan.2 ++ s.scan.1.emits false ev) := by
  simp only [State.scan, ht, Lines.afterAll_append, transactions_append, transactions, List.append_nil]
  rfl

/-- An event that neither moves a line nor completes a transaction. -/
def Event.Silent (ev : Event) : Prop := ∀ l : Lines, l.after ev = l ∧ l.emits false ev = []

theorem State.scan_of_silent {s t : State} {ev : Event} (hev : ev.Silent) (ht : t.trace = s.trace ++ [ev]) :
    t.scan = s.scan := by
  obtain ⟨hafter, hemits⟩ := hev s.scan.1
  rw [State.scan_snoc ht, hafter, hemits, List.append_nil]

/-! ## Internal computation adds silent events only (R11, R12) -/

section
variable (s : State) (rest : List Frame)

theorem State.emit_opStart_scan (op : OpName) : (s.emit (.opStart op)).scan = s.scan :=
  State.scan_of_silent (fun _ => ⟨rfl, rfl⟩) rfl

theorem State.emit_opDone_scan (op : OpName) : (s.emit (.opDone op)).scan = s.scan :=
  State.scan_of_silent (fun _ => ⟨rfl, rfl⟩) rfl

theorem callInit_scan : (callInit rest s).scan = s.scan := by
  unfold callInit
  split <;> rfl

theorem mainStart_scan : (mainStart rest s).scan = s.scan :=
  (callInit_scan _ _).trans (s.emit_opStart_scan .init)

theorem mainNext_scan : (mainNext rest s).scan = s.scan := s.emit_opStart_scan .disp

theorem State.wake_scan : s.wake.scan = s.scan := by
  unfold State.wake
  split
  · exact mainStart_scan s _
  · exact mainNext_scan s _
  · rfl

variable {s rest} {t : State}

theorem initAfter_scan {l : InitLbl} (h : initAfter l rest s = some t) : t.scan = s.scan := by
  cases l <;> simp only [initAfter, Option.some.injEq, reduceCtorEq] at h
  case i5 => split at h <;> cases h <;> rfl
  all_goals subst h; rfl

theorem wintTest_scan (h : wintTest rest s = some t) : t.scan = s.scan := by
  unfold wintTest at h
  split at h <;> cases h
  rfl

theorem rndrAfter_scan {l : RndrLbl} (h : rndrAfter l rest s = some t) : t.scan = s.scan := by
  cases l <;> simp only [rndrAfter, Option.some.injEq, reduceCtorEq] at h
  case d1 | d2b => split at h <;> cases h <;> rfl
  all_goals subst h; rfl

theorem dispAfter_scan {l : DispLbl} (h : dispAfter l rest s = some t) : t.scan = s.scan := by
  cases l <;> simp only [dispAfter, Option.some.injEq, reduceCtorEq] at h
  all_goals subst h; rfl

end

/-- A return adds the ends of operations, and MAIN the start of the next. -/
theorem returnTo_scan (rest : List Frame) : ∀ (done : OpName) (s : State), (returnTo done rest s).scan = s.scan := by
  induction rest with
  | nil => exact fun done s => s.emit_opDone_scan done
  | cons f rest ih =>
    intro done s
    cases f with
    | main l => exact (mainNext_scan _ rest).trans (s.emit_opDone_scan done)
    | cmd l v => cases l <;> rfl
    | dat l v => cases l <;> rfl
    | init l =>
      cases h : initAfter l rest s with
      | none => simpa [returnTo, h] using ih .init s
      | some t => simpa [returnTo, h] using initAfter_scan h
    | wint l =>
      have hs : s.shrinkN.scan = s.scan := rfl
      cases h : wintTest rest s.shrinkN with
      | none => simpa [returnTo, h] using (ih .wint s.shrinkN).trans hs
      | some t => simpa [returnTo, h] using (wintTest_scan h).trans hs
    | rndr l =>
      cases h : rndrAfter l rest s with
      | none => simpa [returnTo, h] using ih .rndr s
      | some t => simpa [returnTo, h] using rndrAfter_scan h
    | disp l =>
      cases h : dispAfter l rest s with
      | none => simpa [returnTo, h] using ih .disp s
      | some t => simpa [returnTo, h] using dispAfter_scan h
    | rdyw l | cmdi l v | txb l v | xpkt l | clrf => rfl

/-- WINT's test, and the return where it fails. -/
theorem wintMicro_scan (rest : List Frame) (s : State) : (wintMicro rest s).scan = s.scan := by
  unfold wintMicro
  cases h : wintTest rest s with
  | none => exact returnTo_scan rest .wint s
  | some t => exact wintTest_scan h

theorem wintMicro_internal (rest : List Frame) (s : State) : (wintMicro rest s).InternalOf s := by
  unfold wintMicro
  cases h : wintTest rest s with
  | none => exact returnTo_internal rest .wint s
  | some t => exact wintTest_internal h

theorem requestOf_scan {i : Instr} {op : OpName} {call : List Frame → State → State}
    (hr : requestOf i = some (op, call)) (rest : List Frame) (s : State) : (call rest s).scan = s.scan := by
  cases i <;> simp only [requestOf, reduceCtorEq, Option.some.injEq, Prod.mk.injEq] at hr
  all_goals obtain ⟨rfl, rfl⟩ := hr
  case init => exact callInit_scan s rest
  case wint n => exact wintMicro_scan rest (s.setN n)
  all_goals rfl

/-! ## What the LCD does not see -/

/-- `t` is `s` in all that concerns the LCD: the lines, the transaction that waits, the LCD agent, the scan. -/
structure State.SameToLcd (t s : State) : Prop where
  cfg   : t.cfg = s.cfg
  lines : t.lines = s.lines
  lcdIn : t.lcdIn = s.lcdIn
  lcd   : t.lcd = s.lcd
  scan  : t.scan = s.scan

theorem State.SameToLcd.trans {s t u : State} (h₁ : u.SameToLcd t) (h₂ : t.SameToLcd s) : u.SameToLcd s :=
  ⟨h₁.cfg.trans h₂.cfg, h₁.lines.trans h₂.lines, h₁.lcdIn.trans h₂.lcdIn, h₁.lcd.trans h₂.lcd,
    h₁.scan.trans h₂.scan⟩

theorem State.SameToLcd.refl (s : State) : s.SameToLcd s := ⟨rfl, rfl, rfl, rfl, rfl⟩

theorem State.InternalOf.sameToLcd {s t : State} (h : t.InternalOf s) (hscan : t.scan = s.scan) : t.SameToLcd s := by
  obtain ⟨he, -⟩ := h
  exact ⟨by rw [he], by rw [he]; rfl, by rw [he], by rw [he], hscan⟩

theorem returnTo_sameToLcd {s t : State} (done : OpName) (rest : List Frame) (h : t.SameToLcd s) :
    (returnTo done rest t).SameToLcd s :=
  ((returnTo_internal rest done t).sameToLcd (returnTo_scan rest done t)).trans h

theorem accept_sameToLcd {s : State} {i : Instr} {op : OpName} {call : List Frame → State → State}
    (hr : requestOf i = some (op, call)) : (s.accept op call).SameToLcd s :=
  (accept_internal hr).sameToLcd ((requestOf_scan hr [] _).trans (s.emit_opStart_scan op))

/-- The sequencer's turn, MAIN woken if need be. -/
theorem State.wake_takeTurn_sameToLcd (s : State) : s.takeTurn.wake.SameToLcd s :=
  (s.takeTurn.wake_internal.sameToLcd s.takeTurn.wake_scan).trans ⟨rfl, rfl, rfl, rfl, rfl⟩

/-- A visible action that is not on the lines. -/
theorem State.SameToLcd.of_silent {s t : State} {ev : Event} (hev : ev.Silent) (cfg : t.cfg = s.cfg)
    (lines : t.lines = s.lines) (lcdIn : t.lcdIn = s.lcdIn) (lcd : t.lcd = s.lcd) (trace : t.trace = s.trace ++ [ev]) :
    t.SameToLcd s := ⟨cfg, lines, lcdIn, lcd, State.scan_of_silent hev trace⟩

/-! ## The action on the lines -/

/-- The action on the lines that the label of the top frame names (R111 to R114); at other labels there is none. -/
def Frame.lineAction (f : Frame) (s : State) : State :=
  match f with
  | .rdyw .w0 => s.driveDir .inp
  | .rdyw .w1 | .cmdi .c0 _ | .cmd .k1 _ => s.driveRs false
  | .dat .t1 _ => s.driveRs true
  | .rdyw .w2 => s.driveRw true
  | .rdyw .w8 | .cmdi .c1 _ | .cmd .k2 _ | .dat .t2 _ => s.driveRw false
  | .cmdi .c2 b | .cmd .k3 b | .dat .t3 b => s.driveBus b
  | .rdyw .w3 | .cmdi .c3 _ | .cmd .k4 _ | .dat .t4 _ => s.raiseE
  | .rdyw .w5 => s.sample
  | .rdyw .w6 | .cmdi .c5 _ | .cmd .k6 _ | .dat .t6 _ => s.lowerE
  | .rdyw .w7 => s.driveDir .out
  | _ => s

section
variable (rest : List Frame) (s : State)

theorem State.delay_sameToLcd (ms : Nat) : (s.delay ms).SameToLcd s :=
  .of_silent (ev := .delay ms) (fun _ => ⟨rfl, rfl⟩) rfl rfl rfl rfl rfl

theorem State.readPkt_sameToLcd (i : BitVec 2) : (s.readPkt i).SameToLcd s :=
  .of_silent (ev := .pktRead i (s.pkt.get i)) (fun _ => ⟨rfl, rfl⟩) rfl rfl rfl rfl rfl

theorem State.readFlag_sameToLcd : s.readFlag.SameToLcd s :=
  .of_silent (ev := .flagRead s.ready) (fun _ => ⟨rfl, rfl⟩) rfl rfl rfl rfl rfl

theorem State.clearFlag_sameToLcd : s.clearFlag.SameToLcd s :=
  .of_silent (ev := .flagClear) (fun _ => ⟨rfl, rfl⟩) rfl rfl rfl rfl rfl

theorem State.pollTx_sameToLcd : s.pollTx.SameToLcd s :=
  .of_silent (ev := .txPoll s.nextTxReady) (fun _ => ⟨rfl, rfl⟩) rfl rfl rfl rfl rfl

theorem State.writeTx_sameToLcd (b : Byte) : (s.writeTx b).SameToLcd s :=
  .of_silent (ev := .txWrite b) (fun _ => ⟨rfl, rfl⟩) rfl rfl rfl rfl rfl

theorem State.storeByte_sameToLcd (b : Byte) : (s.storeByte b).SameToLcd s :=
  .of_silent (ev := .rxByte b s.rxidx s.readyAfterByte) (fun _ => ⟨rfl, rfl⟩) rfl rfl rfl rfl rfl

theorem initMicro_sameToLcd (l : InitLbl) : (initMicro l rest s).SameToLcd s := by
  have called {t : State} (h : t.SameToLcd s) (c : Byte) (fs : List Frame) :
      (callCmdi c fs t).SameToLcd s ∧ (callCmd c fs t).SameToLcd s :=
    ⟨((callCmdi_internal _ _ _).sameToLcd rfl).trans h, ((callCmd_internal _ _ _).sameToLcd rfl).trans h⟩
  cases l
  case i0 =>
    simp only [initMicro]
    split
    · exact (called (s.delay_sameToLcd _) _ _).1
    · exact (called (.refl s) _ _).1
  case i6 =>
    simp only [initMicro]
    split
    · exact (called (s.delay_sameToLcd _) _ _).2
    · exact (called (.refl s) _ _).2
  case i2 | i4 => exact (called (s.delay_sameToLcd _) _ _).1
  case i1 | i3 | i5 => exact (called (.refl s) _ _).1
  case i7 | i8 | i9 | i10 => exact (called (.refl s) _ _).2

theorem rndrMicro_sameToLcd (l : RndrLbl) : (rndrMicro l rest s).SameToLcd s := by
  cases l
  case d2a => exact ((callDat_internal _ _ _).sameToLcd rfl).trans (s.readPkt_sameToLcd _)
  case d0 | d3 => exact (callCmd_internal _ _ _).sameToLcd rfl
  case d1 | d2b => exact (callDat_internal _ _ _).sameToLcd rfl

theorem txbMicro_sameToLcd (l : TxbLbl) (b : Byte) : (txbMicro l b rest s).SameToLcd s := by
  cases l
  case x0 => exact ((State.goto_internal _ rest _).sameToLcd rfl).trans s.pollTx_sameToLcd
  case x1 => exact returnTo_sameToLcd _ _ (s.writeTx_sameToLcd b)

theorem xpktMicro_sameToLcd (l : XpktLbl) : (xpktMicro l rest s).SameToLcd s := by
  cases l
  case e0 => exact ((State.goto_internal _ rest _).sameToLcd rfl).trans s.pollTx_sameToLcd
  case e1 => exact ((State.goto_internal _ rest _).sameToLcd rfl).trans (s.readPkt_sameToLcd _)
  case e2 =>
    simp only [xpktMicro]
    split
    · exact returnTo_sameToLcd _ _ (s.writeTx_sameToLcd _)
    · exact (((State.goto_internal _ rest _).trans (State.setI_internal _ _)).sameToLcd rfl).trans
        (s.writeTx_sameToLcd _)

theorem dispMicro_sameToLcd (l : DispLbl) : (dispMicro l rest s).SameToLcd s := by
  cases l
  case l0 =>
    simp only [dispMicro]
    split
    · exact ((callRndr_internal _ _).sameToLcd rfl).trans s.readFlag_sameToLcd
    · exact returnTo_sameToLcd _ _ s.readFlag_sameToLcd
  case l1 => exact (callRndr_internal _ _).sameToLcd rfl
  case l2 => exact (callXpkt_internal _ _).sameToLcd rfl
  case l3 => exact (callClrf_internal _ _).sameToLcd rfl

/-- The LCD sees of a micro-step the action on the lines alone. -/
theorem frameStep_lineAction (f : Frame) : (frameStep f rest s).SameToLcd (f.lineAction s) := by
  have moved (t : State) (f' : Frame) : (t.goto f' rest).SameToLcd t := (t.goto_internal rest f').sameToLcd rfl
  have delayed (f' : Frame) : ((s.delay s.cfg.tPulse).goto f' rest).SameToLcd s :=
    (moved _ f').trans (s.delay_sameToLcd _)
  cases f with
  | rdyw l =>
    cases l
    case w4 => exact delayed _
    case w8 => exact returnTo_sameToLcd _ _ (.refl _)
    all_goals exact moved _ _
  | cmdi l c =>
    cases l
    case c4 => exact delayed _
    case c5 => exact returnTo_sameToLcd _ _ (.refl _)
    all_goals exact moved _ _
  | cmd l c =>
    cases l
    case k0 => exact (callRdyw_internal _ _).sameToLcd rfl
    case k5 => exact delayed _
    case k6 => exact returnTo_sameToLcd _ _ (.refl _)
    all_goals exact moved _ _
  | dat l d =>
    cases l
    case t0 => exact (callRdyw_internal _ _).sameToLcd rfl
    case t5 => exact delayed _
    case t6 => exact returnTo_sameToLcd _ _ (.refl _)
    all_goals exact moved _ _
  | init l => exact initMicro_sameToLcd rest s l
  | wint l => exact (wintMicro_internal rest s).sameToLcd (wintMicro_scan rest s)
  | rndr l => exact rndrMicro_sameToLcd rest s l
  | txb l b => exact txbMicro_sameToLcd rest s l b
  | xpkt l => exact xpktMicro_sameToLcd rest s l
  | clrf => exact returnTo_sameToLcd _ _ s.clearFlag_sameToLcd
  | disp l => exact dispMicro_sameToLcd rest s l
  | main l => exact .refl s

end

/-- A step is the LCD agent's, or the LCD sees nothing of it, or it sees the action on the lines of the frame on top. -/
theorem step_toLcd {s t : State} (h : step s = .next t) :
    (∃ w, s.lcdIn = some w ∧ t = s.lcdTake fun _ => s.lcdSettled) ∨
    t.SameToLcd s ∨
    (s.lcdIn = none ∧ ∃ f rest, s.takeTurn.wake.seq = f :: rest ∧ t.SameToLcd (f.lineAction s.takeTurn.wake)) := by
  rcases step_effect h with hlcd | ⟨-, b, -, rfl⟩ | ⟨hl, -, hq⟩
  · exact .inl hlcd
  · exact .inr (.inl ((s.takeTurn.storeByte_sameToLcd b).trans ⟨rfl, rfl, rfl, rfl, rfl⟩))
  · have hwake := s.wake_takeTurn_sameToLcd
    have hoffer : s.takeTurn.wake.takeOffer.SameToLcd s :=
      .trans (t := s.takeTurn.wake) ⟨rfl, rfl, rfl, rfl, rfl⟩ hwake
    rcases hq with ⟨f, rest, hs, rfl⟩ | ⟨-, -, i, op, call, hr, rfl⟩ | ⟨-, rfl | rfl⟩
    · exact .inr (.inr ⟨hl, f, rest, hs, frameStep_lineAction rest _ f⟩)
    · exact .inr (.inl ((accept_sameToLcd hr).trans hoffer))
    · exact .inr (.inl hoffer)
    · exact .inr (.inl hwake)

end Sys2Proof.Machine
end

section
/-! The trace tells the lines and the LCD agent after every step (R116, R158). -/

namespace Sys2Proof.Machine

theorem State.SameToLcd.lcdSettled {s t : State} (h : t.SameToLcd s) : t.lcdSettled = s.lcdSettled := by
  simp only [State.lcdSettled, h.lcdIn, h.lcd, h.cfg]

theorem State.Told.congr {s t : State} (h : s.Told) (ht : t.SameToLcd s) : t.Told where
  lines := (congrArg Prod.fst ht.scan).trans (h.lines.trans ht.lines.symm)
  lcd := by
    have hscan : transactions false resetLines t.trace = transactions false resetLines s.trace :=
      congrArg Prod.snd ht.scan
    rw [ht.lcdSettled, ht.cfg, hscan, h.lcd]

/-- An action on the lines, whose event tells the lines after it and the transaction it completes. -/
theorem State.Told.act {s t : State} {ev : Event} (h : s.Told) (trace : t.trace = s.trace ++ [ev])
    (cfg : t.cfg = s.cfg) (lines : t.lines = s.lines.after ev)
    (settled : t.lcdSettled = (s.lines.emits false ev).foldl (Lcd.take s.cfg.lcdCols) s.lcdSettled) : t.Told where
  lines := by rw [trace, Lines.afterAll_append, h.lines, lines]; rfl
  lcd := by
    rw [settled, h.lcd, cfg, trace, transactions_append, h.lines, lcdAfter, lcdAfter, List.foldl_append, transactions,
      transactions, List.append_nil]

/-- The falling edge completes a write in write mode, and nothing else (R116). -/
theorem State.Told.lowerE {s : State} (h : s.Told) (hl : s.lcdIn = none) : s.lowerE.Told := by
  refine h.act rfl rfl rfl ?_
  have hs : s.lcdSettled = s.lcd := by simp only [State.lcdSettled, hl]
  by_cases hpulse : s.e = true ∧ s.rw = false
  · obtain ⟨he, hrw⟩ := hpulse
    have hword := s.fallingWord_write he hrw
    cases hrs : s.rs <;>
      simp [State.lcdSettled, hl, hword, hrs, hrw, he, decodeLcdbus_busWord, Lines.emits, State.lines, Lcd.take]
  · have hnone : s.fallingWord = none := by simp_all [State.fallingWord]
    have hemits : s.lines.emits false (.en false) = [] := by simp_all [Lines.emits, State.lines]
    rw [hemits, List.foldl_nil, hs]
    simp only [State.lcdSettled, State.lowerE_lcdIn, hnone, State.lowerE_lcd]

/-- A sample is a status read of what the LCD supplied (R111, R116). -/
theorem State.Told.sample {s : State} (h : s.Told) (hl : s.lcdIn = none) : s.sample.Told := by
  refine h.act rfl rfl rfl ?_
  simp [State.lcdSettled, hl, decodeLcdbus_status, Lines.emits, Lcd.take]

/-- Every action on the lines is told by its event. -/
theorem State.Told.lineAction {s : State} (h : s.Told) (hl : s.lcdIn = none) (f : Frame) : (f.lineAction s).Told := by
  cases f with
  | rdyw l =>
    cases l
    case w4 => exact h
    case w5 => exact h.sample hl
    case w6 => exact h.lowerE hl
    all_goals exact h.act rfl rfl rfl rfl
  | cmdi l c =>
    cases l
    case c4 => exact h
    case c5 => exact h.lowerE hl
    all_goals exact h.act rfl rfl rfl rfl
  | cmd l c =>
    cases l
    case k0 | k5 => exact h
    case k6 => exact h.lowerE hl
    all_goals exact h.act rfl rfl rfl rfl
  | dat l d =>
    cases l
    case t0 | t5 => exact h
    case t6 => exact h.lowerE hl
    all_goals exact h.act rfl rfl rfl rfl
  | init _ | wint _ | rndr _ | txb _ _ | xpkt _ | clrf | disp _ | main _ => exact h

/-- Settles O55: the LCD agent's step settles what was told as waiting, and of any other step the LCD sees at most one
action on the lines. -/
theorem stepKeepsTold : Obligations.StepKeepsTold := by
  intro s t h hstep
  rcases step_toLcd hstep with ⟨w, hw, rfl⟩ | hsame | ⟨hl, f, rest, -, hsame⟩
  · exact ⟨h.lines, h.lcd⟩
  · exact h.congr hsame
  · have hwake := s.wake_takeTurn_sameToLcd
    exact ((h.congr hwake).lineAction (hwake.lcdIn.trans hl) f).congr hsame

end Sys2Proof.Machine
end

section
/-! The lines during a pulse, and the write that ends one (R115, R189). -/

namespace Sys2Proof.Machine

/-! ## The address and data lines (R115 (a)) -/

/-- `RS`, `RW`, `DIR` and `DBO` are those of `s`. -/
structure State.SameAddress (t s : State) : Prop where
  rs  : t.rs = s.rs
  rw  : t.rw = s.rw
  dir : t.dir = s.dir
  dbo : t.dbo = s.dbo

theorem State.SameAddress.trans {s t u : State} (h₁ : u.SameAddress t) (h₂ : t.SameAddress s) : u.SameAddress s :=
  ⟨h₁.rs.trans h₂.rs, h₁.rw.trans h₂.rw, h₁.dir.trans h₂.dir, h₁.dbo.trans h₂.dbo⟩

theorem State.SameToLcd.address_e {s t : State} (h : t.SameToLcd s) : t.SameAddress s ∧ t.e = s.e := by
  have hlines := h.lines
  simp only [State.lines, Lines.mk.injEq] at hlines
  obtain ⟨hrs, hrw, he, hdir, hdbo⟩ := hlines
  exact ⟨⟨hrs, hrw, hdir, hdbo⟩, he⟩

theorem State.has_e {s : State} {d : Dir} {rw e : Bool} (h : s.has d rw e = true) : s.e = e := by
  obtain ⟨-, -, he⟩ := (s.has_iff d rw e).mp h
  exact he

theorem State.writing_e {s : State} {r : Bool} {b : Byte} {k : Nat} (h : s.writing r b k = true) :
    s.e = decide (3 < k) := by
  simp only [State.writing, Bool.and_eq_true] at h
  obtain ⟨⟨hhas, -⟩, -⟩ := h
  exact State.has_e hhas

/-- An action on an address or data line comes at a label where `E = 0`, and leaves it so. -/
theorem lineAction_address {s : State} {f : Frame} {rest : List Frame} (h : s.Inv) (hs : s.seq = f :: rest) :
    (f.lineAction s).SameAddress s ∨ (s.e = false ∧ (f.lineAction s).e = false) := by
  have lines := h.lines
  unfold State.linesFit at lines
  cases f with
  | rdyw l =>
    cases l <;> simp only [hs] at lines
    case w3 | w4 | w5 | w6 => exact .inl ⟨rfl, rfl, rfl, rfl⟩
    case w0 | w1 =>
      have he : s.e = false := State.has_e lines
      exact .inr ⟨he, he⟩
    case w2 | w7 | w8 =>
      have he : s.e = false := State.has_e (Bool.and_elim_left lines)
      exact .inr ⟨he, he⟩
  | cmdi l c =>
    cases l <;> simp only [hs] at lines
    case c0 | c1 | c2 => exact .inr ⟨State.writing_e lines, State.writing_e lines⟩
    case c3 | c4 | c5 => exact .inl ⟨rfl, rfl, rfl, rfl⟩
  | cmd l c =>
    cases l <;> simp only [hs] at lines
    case k1 | k2 | k3 => exact .inr ⟨State.writing_e lines, State.writing_e lines⟩
    case k0 | k4 | k5 | k6 => exact .inl ⟨rfl, rfl, rfl, rfl⟩
  | dat l d =>
    cases l <;> simp only [hs] at lines
    case t1 | t2 | t3 => exact .inr ⟨State.writing_e lines, State.writing_e lines⟩
    case t0 | t4 | t5 | t6 => exact .inl ⟨rfl, rfl, rfl, rfl⟩
  | init _ | wint _ | rndr _ | txb _ _ | xpkt _ | clrf | disp _ | main _ => exact .inl ⟨rfl, rfl, rfl, rfl⟩

/-- Settles O56: an action on an address or data line has `E = 0` before and after it. -/
theorem linesHoldDuringPulse : Obligations.LinesHoldDuringPulse := by
  intro s t h hstep hpulse
  have haddr : t.SameAddress s := by
    rcases step_toLcd hstep with ⟨w, -, rfl⟩ | hsame | ⟨-, f, rest, hs, hsame⟩
    · exact ⟨rfl, rfl, rfl, rfl⟩
    · exact hsame.address_e.1
    · have hinv : s.takeTurn.wake.Inv := (h.of_unread rfl : s.takeTurn.Inv).wake
      obtain ⟨hwake, hwakeE⟩ := s.wake_takeTurn_sameToLcd.address_e
      obtain ⟨hact, hactE⟩ := hsame.address_e
      rcases lineAction_address hinv hs with hheld | ⟨hbefore, hafter⟩
      · exact hact.trans (hheld.trans hwake)
      · simp [← hwakeE, hactE, hbefore, hafter] at hpulse
  obtain ⟨hrs, hrw, hdir, hdbo⟩ := haddr
  exact ⟨hrs, hrw, hdir, hdbo⟩

/-! ## The end of a gated write (R115 (c)) -/

/-- The step of the top frame on the sequencer's turn. -/
theorem step_frame {s : State} {f : Frame} {rest : List Frame} {i : Instr} (hl : s.lcdIn = none)
    (hb : s.nextTurn = .seq) (hs : s.seq = f :: rest) (hi : frameInstr s.n f = some i) :
    step s = .next (frameStep f rest s.takeTurn) :=
  (step_of_run ((fetch_seq hl hb).trans (fetchSeq_frame (s := s.takeTurn) hs hi))).trans (exec_frameInstr hs hi)

/-- At the falling edge of a write pulse the byte goes on its way to the LCD, whose agent is as it was. -/
theorem lowerE_of_writing {s t : State} {r : Bool} {b : Byte} (h : s.writing r b 5 = true)
    (ht : t.SameToLcd s.lowerE) : t.lcd = s.lcd ∧ t.lcdIn = some (busWord r false b) := by
  have he : s.e = true := State.writing_e h
  obtain ⟨-, hrw⟩ := State.writing_lines h
  obtain ⟨hrs, hdbo⟩ : s.rs = r ∧ s.dbo = b := by simp_all [State.writing]
  exact ⟨ht.lcd, by rw [ht.lcdIn, State.lowerE_lcdIn, s.fallingWord_write he hrw, hrs, hdbo]⟩

/-- Past a ready-wait the LCD agent has seen a status read that was not busy. -/
theorem State.Inv.gated_of_frame {s : State} {f : Frame} {rest : List Frame} (h : s.Inv) (hs : s.seq = f :: rest)
    (hf : f.gated = true) : s.lcd.gated = true := by
  have hready := h.ready
  unfold State.readyFit at hready
  rw [hs] at hready
  split at hready
  next heq => cases heq; cases hf
  next heq => cases heq; simp_all
  next heq => cases heq

/-- The step at the falling edge of a gated write. -/
theorem step_gatedWrite {s t : State} {f : Frame} {rest : List Frame} {i : Instr} {r : Bool} {b : Byte} (h : s.Inv)
    (hl : s.lcdIn = none) (hb : s.nextTurn = .seq) (hstep : step s = .next t) (hs : s.seq = f :: rest)
    (hi : frameInstr s.n f = some i) (hf : f.gated = true)
    (hfall : f.lineAction s.takeTurn = s.takeTurn.lowerE) (hw : s.writing r b 5 = true) :
    t.lcd.gated = true ∧ t.lcdIn = some (busWord r false b) := by
  rw [step_frame hl hb hs hi] at hstep
  cases hstep
  obtain ⟨hlcd, hword⟩ := lowerE_of_writing (s := s.takeTurn) hw (hfall ▸ frameStep_lineAction rest s.takeTurn f)
  exact ⟨(congrArg Lcd.gated hlcd).trans (h.gated_of_frame hs hf), hword⟩

/-- Settles O58: the invariant has the lines of the write and, behind the ready-wait, the status read. -/
theorem gatedWritesFollowReadyStatus : Obligations.GatedWritesFollowReadyStatus := by
  intro s t v rest h hl hb hstep
  have hlines := h.lines
  constructor
  case left =>
    intro hs
    simp only [State.linesFit, hs] at hlines
    exact step_gatedWrite h hl hb hstep hs rfl rfl rfl hlines
  case right =>
    intro hs
    simp only [State.linesFit, hs] at hlines
    exact step_gatedWrite h hl hb hstep hs rfl rfl rfl hlines

end Sys2Proof.Machine
end

section
/-! The transaction traces of whole operations (R116), piece by piece from lines with `E = 0` to lines with `E = 0`. -/

namespace Sys2Proof.Machine

/-- From lines with `E = 0` the events `evs` give the transactions `ts` and leave `E = 0`. -/
def Tells (gaps : Bool) (evs : List Event) (ts : List Txn) : Prop :=
  ∀ l : Lines, l.e = false → transactions gaps l evs = ts ∧ (l.afterAll evs).e = false

section
variable {gaps : Bool}

theorem Tells.append {xs ys : List Event} {us vs : List Txn} (hx : Tells gaps xs us) (hy : Tells gaps ys vs) :
    Tells gaps (xs ++ ys) (us ++ vs) := by
  intro l he
  obtain ⟨hus, hex⟩ := hx l he
  obtain ⟨hvs, hey⟩ := hy _ hex
  exact ⟨by rw [transactions_append, hus, hvs], by rw [Lines.afterAll_append, hey]⟩

theorem Tells.nil : Tells gaps [] [] := fun _ he => ⟨rfl, he⟩

/-! ## One transaction, and the events between transactions -/

/-- A write is one transaction; the delay in its pulse is none (R112, R116). -/
theorem tells_writeEvents (tp : Nat) (rs : Bool) (b : Byte) :
    Tells gaps (writeEvents tp rs b) [if rs then .wrdata b else .wrcmd b] := by
  intro l he
  cases rs <;> simp [writeEvents, transactions, Lines.emits, Lines.after, Lines.afterAll, he]

theorem tells_pktRead (i : BitVec 2) (b : Byte) : Tells gaps [.pktRead i b] [] := fun _ he => ⟨rfl, he⟩

theorem tells_delay (ms : Nat) : Tells true [.delay ms] [.delay ms] := by
  intro l he
  simp [transactions, Lines.emits, Lines.after, Lines.afterAll, he]

theorem tells_gapEvents (t : Option Nat) : Tells true (gapEvents t) (t.toList.map .delay) := by
  cases t with
  | none => exact .nil
  | some ms => exact tells_delay ms

/-! ## The ready-wait (R111) -/

/-- In read mode each pulse is the status read of its sample. -/
theorem transactions_samples (tp : Nat) (bs : List Byte) :
    ∀ l : Lines, l.e = false → l.rw = true →
      transactions gaps l (bs.flatMap (sampleEvents tp)) = bs.map .rdstat ∧
      l.afterAll (bs.flatMap (sampleEvents tp)) = l := by
  induction bs with
  | nil => exact fun l _ _ => ⟨rfl, rfl⟩
  | cons b bs ih =>
    intro l he hw
    have hfirst : transactions gaps l (sampleEvents tp b) = [.rdstat b] := by
      simp [sampleEvents, transactions, Lines.emits, Lines.after, hw]
    have hback : l.afterAll (sampleEvents tp b) = l := by
      simp [sampleEvents, Lines.afterAll, Lines.after, ← he]
    obtain ⟨hts, hl⟩ := ih l he hw
    constructor
    · rw [List.flatMap_cons, transactions_append, hfirst, hback, hts]; rfl
    · rw [List.flatMap_cons, Lines.afterAll_append, hback, hl]

theorem tells_rdywEvents (tp : Nat) (r : Read) : Tells gaps (rdywEvents tp r) r.txns := by
  intro l he
  obtain ⟨hts, hl⟩ :=
    transactions_samples (gaps := gaps) tp r.bytes (l.afterAll [.dir .inp, .rs false, .rw true]) he rfl
  constructor
  · rw [rdywEvents, transactions_append, transactions_append, hts]
    exact List.append_nil _
  · rw [rdywEvents, Lines.afterAll_append, Lines.afterAll_append, hl]
    exact he

/-! ## Gated writes (R113, R114, R121) -/

theorem tells_cmdEvents (tp : Nat) (r : Read) (c : Byte) : Tells gaps (cmdEvents tp r c) (cmdTxns r c) :=
  (tells_rdywEvents tp r).append (tells_writeEvents tp false c)

theorem tells_datEvents (tp : Nat) (r : Read) (d : Byte) : Tells gaps (datEvents tp r d) (datTxns r d) :=
  (tells_rdywEvents tp r).append (tells_writeEvents tp true d)

theorem tells_textEvents (tp : Nat) (rs : List Read) (ds : List Byte) :
    Tells gaps (textEvents tp rs ds) (textTxns rs ds) := by
  induction rs generalizing ds with
  | nil => exact .nil
  | cons r rs ih =>
    cases ds with
    | nil => exact .nil
    | cons d ds => exact (tells_datEvents tp r d).append (ih ds)

theorem tells_packetEvents (tp : Nat) (r : Read) (i : BitVec 2) (b : Byte) :
    Tells gaps (packetEvents tp r i b) (datTxns r b) :=
  (tells_pktRead i b).append (tells_datEvents tp r b)

end

/-! ## INIT and RNDR -/

/-- INIT's delays stand between its writes, outside their pulses (R120). -/
theorem tells_initEvents (c : Config) (r1 r2 r3 r4 : Read) :
    Tells true (initEvents c r1 r2 r3 r4)
      (c.tInit0.toList.map Txn.delay ++ [Txn.wrcmd lcdFset8] ++ [Txn.delay c.tInit1] ++ [Txn.wrcmd lcdFset8] ++
        [Txn.delay c.tInit2] ++ [Txn.wrcmd lcdFset8] ++ c.tInit3.toList.map Txn.delay ++
        cmdTxns r1 lcdFset8TwoLine ++ cmdTxns r2 lcdEntryInc ++ cmdTxns r3 lcdClear ++ cmdTxns r4 lcdDispOnCb) := by
  have fset : Tells true (writeEvents c.tPulse false lcdFset8) [.wrcmd lcdFset8] :=
    tells_writeEvents c.tPulse false lcdFset8
  have first := (tells_gapEvents c.tInit0).append fset
  have second := (first.append (tells_delay c.tInit1)).append fset
  have third := (second.append (tells_delay c.tInit2)).append fset
  have mode := (third.append (tells_gapEvents c.tInit3)).append (tells_cmdEvents c.tPulse r1 lcdFset8TwoLine)
  have entry := mode.append (tells_cmdEvents c.tPulse r2 lcdEntryInc)
  have clear := entry.append (tells_cmdEvents c.tPulse r3 lcdClear)
  exact clear.append (tells_cmdEvents c.tPulse r4 lcdDispOnCb)

/-- RNDR's packet reads are seen by the LCD only as the data writes that follow them (R123). -/
theorem tells_rndrEvents (gaps : Bool) (tp : Nat) (p : Packet) (r0 : Read) (rl : List Read) (q0 q1 q2 q3 r1 : Read) :
    Tells gaps (rndrEvents tp p r0 rl q0 q1 q2 q3 r1) (rndrTxns p r0 rl q0 q1 q2 q3 r1) := by
  have text := (tells_cmdEvents (gaps := gaps) tp r0 lcdClear).append (tells_textEvents tp rl label)
  have half := (text.append (tells_packetEvents tp q0 0 p.p0)).append (tells_packetEvents tp q1 1 p.p1)
  have packet := (half.append (tells_packetEvents tp q2 2 p.p2)).append (tells_packetEvents tp q3 3 p.p3)
  exact packet.append (tells_cmdEvents tp r1 lcdDdramL2)

/-- Settles O39: INIT's events piece by piece. -/
theorem initTransactionTrace : Obligations.InitTransactionTrace := by
  intro l c r1 r2 r3 r4 he
  obtain ⟨hts, -⟩ := tells_initEvents c r1 r2 r3 r4 l he
  rw [hts]
  simp only [List.append_assoc, List.cons_append, List.nil_append]
  rfl

/-- Settles O40: RNDR's events piece by piece. -/
theorem rndrTransactionTrace : Obligations.RndrTransactionTrace := by
  intro l tp p r0 rl q0 q1 q2 q3 r1 he _
  obtain ⟨hts, -⟩ := tells_rndrEvents false tp p r0 rl q0 q1 q2 q3 r1 l he
  exact hts

end Sys2Proof.Machine
end

section
/-! RDYW, CMDI, CMD and DAT from an idle sequencer to their ends (R111 to R114, R142). -/

namespace Sys2Proof.Machine

/-! ## A request accepted -/

theorem State.running_of_fields {s : State} {fs : List Frame} {ts : List Turn} {bs : List Byte} (hl : s.lcdIn = none)
    (hs : s.seq = fs) (ht : s.turns.given = ts) (hb : s.samples.given = bs) : s = s.running fs ts bs := by
  subst hs ht hb
  rw [State.running, ← hl]

theorem State.Reads.singleton {s : State} {r : Read} {bs : List Byte} (h : s.Reads [r] bs) :
    r.Live ∧ s.samples.given = r.bytes ++ bs := by
  simpa [State.Reads] using h

/-! ## A command write (R112, R113) -/

/-- What the write of a command byte leaves. -/
def State.commandWritten (c : Byte) (s : State) : State :=
  { s with
    rs := false, rw := false, e := false, dbo := c
    trace := s.trace ++ writeEvents s.cfg.tPulse false c
    lcd := s.lcd.takeAnyCommand s.cfg.lcdCols c }

/-- The same action by action. -/
theorem State.commandWritten_eq (c : Byte) (s : State) :
    s.commandWritten c =
      { s with
        rs := false, rw := false, e := false, dbo := c
        trace := s.trace ++ [.rs false] ++ [.rw false] ++ [.bus c] ++ [.en true] ++ [.delay s.cfg.tPulse] ++ [.en false]
        lcd := s.lcd.takeAnyCommand s.cfg.lcdCols c } := by
  simp [State.commandWritten, writeEvents]

/-- The labels `f 0` to `f 5` of the operation `i` name the six actions that write the command byte `c`. -/
structure CommandWrite (i : Instr) (done : OpName) (c : Byte) (f : Fin 6 → Frame) : Prop where
  instr n k : frameInstr n (f k) = some i
  select rest s : frameStep (f 0) rest s = (s.driveRs false).goto (f 1) rest
  writeMode rest s : frameStep (f 1) rest s = (s.driveRw false).goto (f 2) rest
  byte rest s : frameStep (f 2) rest s = (s.driveBus c).goto (f 3) rest
  rise rest s : frameStep (f 3) rest s = s.raiseE.goto (f 4) rest
  hold rest s : frameStep (f 4) rest s = (s.delay s.cfg.tPulse).goto (f 5) rest
  fall rest s : frameStep (f 5) rest s = returnTo done rest s.lowerE

/-- `C0` to `C5`. -/
def cmdiFrame (c : Byte) : Fin 6 → Frame
  | 0 => .cmdi .c0 c
  | 1 => .cmdi .c1 c
  | 2 => .cmdi .c2 c
  | 3 => .cmdi .c3 c
  | 4 => .cmdi .c4 c
  | 5 => .cmdi .c5 c

/-- `K1` to `K6`. -/
def cmdFrame (c : Byte) : Fin 6 → Frame
  | 0 => .cmd .k1 c
  | 1 => .cmd .k2 c
  | 2 => .cmd .k3 c
  | 3 => .cmd .k4 c
  | 4 => .cmd .k5 c
  | 5 => .cmd .k6 c

theorem cmdi_commandWrite (c : Byte) : CommandWrite (.cmdi c) .cmdi c (cmdiFrame c) where
  instr _ k := by fin_cases k <;> rfl
  select _ _ := rfl
  writeMode _ _ := rfl
  byte _ _ := rfl
  rise _ _ := rfl
  hold _ _ := rfl
  fall _ _ := rfl

theorem cmd_commandWrite (c : Byte) : CommandWrite (.cmd c) .cmd c (cmdFrame c) where
  instr _ k := by fin_cases k <;> rfl
  select _ _ := rfl
  writeMode _ _ := rfl
  byte _ _ := rfl
  rise _ _ := rfl
  hold _ _ := rfl
  fall _ _ := rfl

/-- The LCD agent takes in the command write that waits for it. -/
theorem steps_takeCommand {s : State} {c : Byte} (k : Nat) (hl : s.lcdIn = some (busWord false false c)) :
    steps (k + 1) s = steps k (s.lcdTake (Lcd.takeAnyCommand s.cfg.lcdCols c)) := by
  have hstep : step s = .next (s.lcdTake (Lcd.takeAnyCommand s.cfg.lcdCols c)) :=
    step_of_run (fetch_busWord hl (decodeLcdbus_busWord false false c))
  simp only [steps, hstep]

section
variable {i : Instr} {done : OpName} {c : Byte} {f : Fin 6 → Frame} (h : CommandWrite i done c f) (s : State)
  (rest : List Frame) (ts : List Turn) (bs : List Byte)
include h

/-- The six actions of the write, up to the falling edge that sends the byte on its way to the LCD. -/
theorem CommandWrite.steps_write :
    steps 6 (s.running (f 0 :: rest) (List.replicate 6 .seq ++ ts) bs) =
      .next (returnTo done rest
        (((((s.driveRs false).driveRw false).driveBus c).raiseE.delay s.cfg.tPulse).running
          (f 5 :: rest) ts bs).lowerE) := calc
  _ = steps 5 ((s.driveRs false).running (f 1 :: rest) (List.replicate 5 .seq ++ ts) bs) :=
    steps_running 5 (h.instr _ 0) (h.select ..)
  _ = steps 4 (((s.driveRs false).driveRw false).running (f 2 :: rest) (List.replicate 4 .seq ++ ts) bs) :=
    steps_running 4 (h.instr _ 1) (h.writeMode ..)
  _ = steps 3 ((((s.driveRs false).driveRw false).driveBus c).running (f 3 :: rest)
        (List.replicate 3 .seq ++ ts) bs) := steps_running 3 (h.instr _ 2) (h.byte ..)
  _ = steps 2 ((((s.driveRs false).driveRw false).driveBus c).raiseE.running (f 4 :: rest)
        (List.replicate 2 .seq ++ ts) bs) := steps_running 2 (h.instr _ 3) (h.rise ..)
  _ = steps 1 (((((s.driveRs false).driveRw false).driveBus c).raiseE.delay s.cfg.tPulse).running (f 5 :: rest)
        (List.replicate 1 .seq ++ ts) bs) := steps_running 1 (h.instr _ 4) (h.hold ..)
  _ = _ := steps_running 0 (h.instr _ 5) (h.fall ..)

/-- A command write that nothing called, with the LCD agent's step after the falling edge. -/
theorem CommandWrite.steps_toIdle :
    steps 7 (s.running [f 0] (List.replicate 6 .seq ++ ts) bs) =
      .next (((s.commandWritten c).emit (.opDone done)).running [] ts bs) := by
  rw [show 7 = 1 + 6 from rfl, steps_add 1 (h.steps_write s [] ts bs), steps_takeCommand 0 rfl,
    State.commandWritten_eq]
  simp only [steps, State.lcdTake, returnTo, State.setSeq, State.emit, State.lowerE, State.running, State.delay,
    State.raiseE, State.driveBus, State.driveRw, State.driveRs]

end

/-- A CMD that nothing called, from its ready-wait to its end. -/
theorem steps_cmd_toIdle (s : State) (c : Byte) {r : Read} (hr : r.Live) (ts : List Turn) (bs : List Byte) :
    steps r.writeSteps
        (s.running [.rdyw .w0, .cmd .k0 c] (List.replicate r.writeTurns .seq ++ ts) (r.bytes ++ bs)) =
      .next ((((s.readyWaited r).commandWritten c).emit (.opDone .cmd)).running [] ts bs) := by
  have hcount : r.writeSteps = 7 + (r.turns + r.bytes.length) := by
    rw [Read.writeSteps, Read.writeTurns]; omega
  rw [hcount, Read.writeTurns, List.replicate_add, List.append_assoc,
    steps_add 7 (steps_rdyw s [.cmd .k0 c] _ bs hr)]
  exact (cmd_commandWrite c).steps_toIdle (s.readyWaited r) ts bs

/-! ## From the request to the end -/

/-- Settles O11: the ready-wait, with nothing to return to. -/
theorem rdywCompletes : Obligations.RdywCompletes := by
  intro s r bs ts ⟨hs, hl⟩ hreads hturns
  obtain ⟨hr, hsamples⟩ := hreads.singleton
  refine ⟨_, exec_request hs rfl, ?_⟩
  have haccept : s.accept .rdyw callRdyw = (s.emit (.opStart .rdyw)).running [.rdyw .w0] _ _ :=
    State.running_of_fields hl rfl hturns hsamples
  rw [haccept, steps_rdyw _ [] ts bs hr]
  simp only [returnTo, State.readyWaited, State.emit, State.setSeq, State.running, hs, hl, List.append_assoc]

/-- Settles O12: the write alone. -/
theorem cmdiCompletes : Obligations.CmdiCompletes := by
  intro s c ts ⟨hs, hl⟩ hturns
  refine ⟨_, exec_request hs rfl, ?_⟩
  have haccept : s.accept .cmdi (callCmdi c) = ((s.emit (.opStart .cmdi)).setV c).running [.cmdi .c0 c] _ _ :=
    State.running_of_fields hl rfl hturns rfl
  rw [haccept]
  refine ((cmdi_commandWrite c).steps_toIdle _ ts _).trans ?_
  simp only [State.commandWritten, State.emit, State.setV, State.running, hs, hl, List.append_assoc]
  rfl

/-- Settles O13: the ready-wait, then the write. -/
theorem cmdCompletes : Obligations.CmdCompletes := by
  intro s c r bs ts ⟨hs, hl⟩ hreads hturns
  obtain ⟨hr, hsamples⟩ := hreads.singleton
  refine ⟨_, exec_request hs rfl, ?_⟩
  have haccept : s.accept .cmd (callCmd c) =
      ((s.emit (.opStart .cmd)).setV c).running [.rdyw .w0, .cmd .k0 c] _ _ :=
    State.running_of_fields hl rfl hturns hsamples
  rw [haccept]
  refine (steps_cmd_toIdle _ c hr ts bs).trans ?_
  simp only [State.readyWaited, State.commandWritten, State.emit, State.setV, State.running, hs, hl, cmdEvents,
    cmdTxns, Lcd.takeAll_append, List.append_assoc]
  rfl

/-- Settles O14: the ready-wait, then the write. -/
theorem datCompletes : Obligations.DatCompletes := by
  intro s d r bs ts ⟨hs, hl⟩ hreads hturns
  obtain ⟨hr, hsamples⟩ := hreads.singleton
  refine ⟨_, exec_request hs rfl, ?_⟩
  have haccept : s.accept .dat (callDat d) =
      ((s.emit (.opStart .dat)).setV d).running [.rdyw .w0, .dat .t0 d] _ _ :=
    State.running_of_fields hl rfl hturns hsamples
  rw [haccept]
  refine (steps_dat_toIdle _ d hr ts bs).trans ?_
  rw [← State.datServed_eq]
  simp only [State.datServed, State.running, hs, hl, List.append_assoc]

end Sys2Proof.Machine
end

section
/-! Gated and ungated writes under a caller (R112 to R114): how control passes from one call to the next. -/

namespace Sys2Proof.Machine

/-! ## A return and the LCD agent's step

The falling edge of a write ends its operation, so the return comes before the LCD agent's step. Neither reads what the
other writes. -/

section
variable (s : State) (rest : List Frame) (g : Lcd → Lcd)

theorem initAfter_lcdTake (l : InitLbl) :
    initAfter l rest (s.lcdTake g) = (initAfter l rest s).map (State.lcdTake g) := by
  cases l
  case i5 => cases h : s.cfg.tInit3 <;> simp only [initAfter, State.lcdTake, h] <;> rfl
  all_goals rfl

theorem wintTest_lcdTake : wintTest rest (s.lcdTake g) = (wintTest rest s).map (State.lcdTake g) := by
  simp only [wintTest, apply_ite (Option.map (State.lcdTake g))]
  rfl

theorem rndrAfter_lcdTake (l : RndrLbl) :
    rndrAfter l rest (s.lcdTake g) = (rndrAfter l rest s).map (State.lcdTake g) := by
  cases l
  case d1 | d2b => simp only [rndrAfter, apply_ite (Option.map (State.lcdTake g))]; rfl
  all_goals rfl

theorem dispAfter_lcdTake (l : DispLbl) :
    dispAfter l rest (s.lcdTake g) = (dispAfter l rest s).map (State.lcdTake g) := by
  cases l <;> rfl

end

theorem returnTo_lcdTake (g : Lcd → Lcd) (rest : List Frame) :
    ∀ (done : OpName) (s : State), returnTo done rest (s.lcdTake g) = (returnTo done rest s).lcdTake g := by
  induction rest with
  | nil => exact fun _ _ => rfl
  | cons f rest ih =>
    intro done s
    cases f with
    | main l => rfl
    | cmd l v => cases l <;> rfl
    | dat l v => cases l <;> rfl
    | init l => rw [returnTo, returnTo, initAfter_lcdTake, ih, Option.getD_map]
    | wint l =>
      have hshrink : (s.lcdTake g).shrinkN = s.shrinkN.lcdTake g := rfl
      rw [returnTo, returnTo, hshrink, wintTest_lcdTake, ih, Option.getD_map]
    | rndr l => rw [returnTo, returnTo, rndrAfter_lcdTake, ih, Option.getD_map]
    | disp l => rw [returnTo, returnTo, dispAfter_lcdTake, ih, Option.getD_map]
    | rdyw l | cmdi l v | txb l v | xpkt l | clrf => rfl

/-! ## Control -/

/-- Control at `go` in the state `s` comes to `go'` in the state `t`: in `k` turns and `m` steps beside those of the
gated writes, whose reads are `rs`. Control is what calls or returns next, and sets the stack itself. -/
def Leads (go : State → State) (s : State) (k m : Nat) (rs : List Read) (go' : State → State) (t : State) : Prop :=
  ∀ (fs : List Frame) (ts : List Turn) (bs : List Byte), ∃ fs',
    steps (m + (rs.map Read.writeSteps).sum)
        (go (s.running fs (List.replicate (k + (rs.map Read.writeTurns).sum) .seq ++ ts)
          (rs.flatMap Read.bytes ++ bs))) =
      .next (go' (t.running fs' ts bs))

section
variable {go go₁ go₂ : State → State} {s s₁ s₂ : State} {k₁ k₂ m₁ m₂ : Nat} {rs₁ rs₂ : List Read}

theorem Leads.refl (go : State → State) (s : State) : Leads go s 0 0 [] go s := fun fs _ _ => ⟨fs, rfl⟩

theorem Leads.trans (h₁ : Leads go s k₁ m₁ rs₁ go₁ s₁) (h₂ : Leads go₁ s₁ k₂ m₂ rs₂ go₂ s₂) :
    Leads go s (k₁ + k₂) (m₁ + m₂) (rs₁ ++ rs₂) go₂ s₂ := by
  intro fs ts bs
  obtain ⟨fs₁, hfirst⟩ := h₁ fs (List.replicate (k₂ + (rs₂.map Read.writeTurns).sum) .seq ++ ts)
    (rs₂.flatMap Read.bytes ++ bs)
  obtain ⟨fs₂, hsecond⟩ := h₂ fs₁ ts bs
  refine ⟨fs₂, ?_⟩
  have hturns : k₁ + k₂ + ((rs₁ ++ rs₂).map Read.writeTurns).sum =
      k₁ + (rs₁.map Read.writeTurns).sum + (k₂ + (rs₂.map Read.writeTurns).sum) := by
    rw [List.map_append, List.sum_append]; omega
  have hsteps : m₁ + m₂ + ((rs₁ ++ rs₂).map Read.writeSteps).sum =
      m₂ + (rs₂.map Read.writeSteps).sum + (m₁ + (rs₁.map Read.writeSteps).sum) := by
    rw [List.map_append, List.sum_append]; omega
  rw [hturns, hsteps, List.replicate_add, List.flatMap_append, List.append_assoc, List.append_assoc]
  exact (steps_add _ hfirst).trans hsecond

theorem Leads.congr (h : Leads go s k₁ m₁ rs₁ go₁ s₁) (hk : k₂ = k₁) (hm : m₂ = m₁) (hs : s₂ = s₁) :
    Leads go s k₂ m₂ rs₁ go₁ s₂ := by
  subst hk hm hs
  exact h

/-- Control that is already control elsewhere. -/
theorem Leads.of_eq {rs : List Read} {k m : Nat} (h : Leads go₁ s₁ k m rs go₂ s₂)
    (heq : ∀ fs ts bs, go (s.running fs ts bs) = go₁ (s₁.running fs ts bs)) :
    Leads go s k m rs go₂ s₂ := by
  intro fs ts bs
  rw [heq]
  exact h fs ts bs

/-- One micro-step of the frame that control goes to. -/
theorem Leads.of_step {f : Frame} {rest : List Frame} {i : Instr} (hi : frameInstr s.n f = some i)
    (ht : ∀ ts bs, ∃ fs, frameStep f rest (s.running (f :: rest) ts bs) = go₂ (s₂.running fs ts bs)) :
    Leads (State.goto f rest) s 1 1 [] go₂ s₂ := by
  intro fs ts bs
  obtain ⟨fs', hfs⟩ := ht ts bs
  exact ⟨fs', steps_running 0 hi hfs⟩

end

/-- An operation that a request starts and that runs to its end. -/
theorem Leads.completes {op : OpName} {call : List Frame → State → State} {s t : State} {k m : Nat} {rs : List Read}
    {ts : List Turn} {bs : List Byte}
    (h : Leads (call []) (s.emit (.opStart op)) k m rs (returnTo op []) t) (hidle : s.Idle) (hreads : s.Reads rs bs)
    (hturns : s.SeqTurns (k + (rs.map Read.writeTurns).sum) ts) :
    steps (m + (rs.map Read.writeSteps).sum) (s.accept op call) = .next ((t.emit (.opDone op)).running [] ts bs) := by
  obtain ⟨fs, hrun⟩ := h [] ts bs
  have hstart : s.emit (.opStart op) = (s.emit (.opStart op)).running [] _ _ :=
    State.running_of_fields hidle.2 hidle.1 hturns hreads.2
  rw [State.accept, hstart, hrun]
  rfl

/-! ## What a write leaves -/

/-- What a gated operation leaves whose last write is the byte `b` behind a read that ends in the sample `last`. -/
def State.written (rs : Bool) (b last : Byte) (evs : List Event) (txns : List Txn) (s : State) : State :=
  { s with
    dir := .out, rs := rs, rw := false, e := false, dbo := b, v := b, stat := last
    trace := s.trace ++ evs
    lcd := s.lcd.takeAll s.cfg.lcdCols txns }

/-- A CMD. -/
def State.commanded (r : Read) (c : Byte) (s : State) : State :=
  s.written false c r.last (cmdEvents s.cfg.tPulse r c) (cmdTxns r c)

/-- A DAT. -/
def State.displayed (r : Read) (d : Byte) (s : State) : State :=
  s.written true d r.last (datEvents s.cfg.tPulse r d) (datTxns r d)

theorem State.written_written (s : State) (rs rs' : Bool) (b b' last last' : Byte) (evs evs' : List Event)
    (txns txns' : List Txn) :
    (s.written rs b last evs txns).written rs' b' last' evs' txns' =
      s.written rs' b' last' (evs ++ evs') (txns ++ txns') := by
  simp only [State.written, Lcd.takeAll_append, List.append_assoc]

theorem State.commanded_eq (r : Read) (c : Byte) (s : State) :
    s.commanded r c = ((s.setV c).readyWaited r).commandWritten c := by
  simp only [State.commanded, State.written, State.commandWritten, State.readyWaited, State.setV, cmdEvents, cmdTxns,
    Lcd.takeAll_append, List.append_assoc]
  rfl

theorem State.displayed_eq (r : Read) (d : Byte) (s : State) :
    s.displayed r d = ((s.setV d).readyWaited r).dataWritten d := by
  simp only [State.displayed, State.written, State.dataWritten, State.readyWaited, State.setV, datEvents, datTxns,
    Lcd.takeAll_append, List.append_assoc]
  rfl

/-! ## The writes, from call to return -/

/-- A command write with the LCD agent's step after its falling edge, whatever called it. -/
theorem CommandWrite.steps_returned {i : Instr} {done : OpName} {c : Byte} {f : Fin 6 → Frame}
    (h : CommandWrite i done c f) (s : State) (rest : List Frame) (ts : List Turn) (bs : List Byte) :
    steps 7 (s.running (f 0 :: rest) (List.replicate 6 .seq ++ ts) bs) =
      .next (returnTo done rest ((s.commandWritten c).running (f 5 :: rest) ts bs)) := by
  have hsame := returnTo_sameToLcd done rest (.refl
    (((((s.driveRs false).driveRw false).driveBus c).raiseE.delay s.cfg.tPulse).running (f 5 :: rest) ts bs).lowerE)
  rw [show 7 = 1 + 6 from rfl, steps_add 1 (h.steps_write s rest ts bs), steps_takeCommand 0 hsame.lcdIn, hsame.cfg,
    ← returnTo_lcdTake, State.commandWritten_eq]
  rfl

/-- The write of a DAT with the LCD agent's step after its falling edge, whatever called it. -/
theorem steps_writeData_returned (s : State) (d : Byte) (rest : List Frame) (ts : List Turn) (bs : List Byte) :
    steps 7 (s.running (.dat .t1 d :: rest) (List.replicate 6 .seq ++ ts) bs) =
      .next (returnTo .dat rest ((s.dataWritten d).running (.dat .t6 d :: rest) ts bs)) := by
  have hsame := returnTo_sameToLcd .dat rest (.refl
    (((((s.driveRs true).driveRw false).driveBus d).raiseE.delay s.cfg.tPulse).running
      (.dat .t6 d :: rest) ts bs).lowerE)
  rw [show 7 = 1 + 6 from rfl, steps_add 1 (steps_writeData s d rest ts bs), steps_takeData 0 hsame.lcdIn, hsame.cfg,
    ← returnTo_lcdTake, State.dataWritten_eq]
  rfl

theorem leads_cmdi (c : Byte) (rest : List Frame) (s : State) :
    Leads (callCmdi c rest) s 6 7 [] (returnTo .cmdi rest) ((s.setV c).commandWritten c) :=
  fun _ ts bs => ⟨_, (cmdi_commandWrite c).steps_returned (s.setV c) rest ts bs⟩

/-- A gated write that `go` calls with the frame `f`: its read, then its write, here `hwrite`. -/
theorem leads_gated {go : State → State} {s s' t : State} {f : Frame} {rest : List Frame} {done : OpName} {r : Read}
    (hr : r.Live) (hcall : ∀ fs ts bs, go (s.running fs ts bs) = s'.running (.rdyw .w0 :: f :: rest) ts bs)
    (hwrite : ∀ ts bs, ∃ fs, steps 7 (returnTo .rdyw (f :: rest)
      ((s'.readyWaited r).running (.rdyw .w8 :: f :: rest) (List.replicate 6 .seq ++ ts) bs)) =
        .next (returnTo done rest (t.running fs ts bs))) :
    Leads go s 0 0 [r] (returnTo done rest) t := by
  intro fs ts bs
  obtain ⟨fs', hend⟩ := hwrite ts bs
  refine ⟨fs', ?_⟩
  have hsteps : 0 + ([r].map Read.writeSteps).sum = 7 + (r.turns + r.bytes.length) := by
    simp only [List.map_cons, List.map_nil, List.sum_cons, List.sum_nil, Read.writeSteps, Read.writeTurns]; omega
  have hturns : 0 + ([r].map Read.writeTurns).sum = r.turns + 6 := by
    simp only [List.map_cons, List.map_nil, List.sum_cons, List.sum_nil, Read.writeTurns]; omega
  rw [hcall, hsteps, hturns, List.replicate_add, List.append_assoc, List.flatMap_singleton,
    steps_add 7 (steps_rdyw s' (f :: rest) _ bs hr), hend]

theorem leads_cmd (c : Byte) (rest : List Frame) (s : State) {r : Read} (hr : r.Live) :
    Leads (callCmd c rest) s 0 0 [r] (returnTo .cmd rest) (s.commanded r c) := by
  rw [State.commanded_eq]
  exact leads_gated (s' := s.setV c) (f := .cmd .k0 c) hr (fun _ _ _ => rfl) fun ts bs =>
    ⟨_, (cmd_commandWrite c).steps_returned ((s.setV c).readyWaited r) rest ts bs⟩

theorem leads_dat (d : Byte) (rest : List Frame) (s : State) {r : Read} (hr : r.Live) :
    Leads (callDat d rest) s 0 0 [r] (returnTo .dat rest) (s.displayed r d) := by
  rw [State.displayed_eq]
  exact leads_gated (s' := s.setV d) (f := .dat .t0 d) hr (fun _ _ _ => rfl) fun ts bs =>
    ⟨_, steps_writeData_returned ((s.setV d).readyWaited r) d rest ts bs⟩

/-! ## A text -/

/-- The DATs of a text, one read each. -/
def State.textWritten : List Read → List Byte → State → State
  | r :: rs, d :: ds, s => (s.displayed r d).textWritten rs ds
  | _, _, s => s

/-- What a text with a character leaves. -/
theorem State.textWritten_cons (s : State) (r : Read) (d : Byte) (rs : List Read) (ds : List Byte)
    (hlen : rs.length = ds.length) :
    s.textWritten (r :: rs) (d :: ds) =
      s.written true (ds.getLast?.getD d) ((rs.map Read.last).getLast?.getD r.last)
        (textEvents s.cfg.tPulse (r :: rs) (d :: ds)) (textTxns (r :: rs) (d :: ds)) := by
  induction rs generalizing r d ds s with
  | nil =>
    obtain rfl := List.length_eq_zero_iff.mp hlen.symm
    simp [State.textWritten, State.displayed, textEvents, textTxns]
  | cons r' rs ih =>
    obtain ⟨d', ds, rfl⟩ := List.exists_cons_of_length_eq_add_one hlen.symm
    rw [State.textWritten, ih _ r' d' ds (Nat.succ.inj hlen), State.displayed, State.written_written,
      List.getLast?_cons, List.map_cons, List.getLast?_cons]
    rfl

/-- A text with a character leaves what one gated operation does, with the text's events and transactions. -/
theorem State.textWritten_eq_written {rs : List Read} {ds : List Byte} (hlen : rs.length = ds.length) (hds : ds ≠ [])
    (s : State) :
    ∃ b last, s.textWritten rs ds = s.written true b last (textEvents s.cfg.tPulse rs ds) (textTxns rs ds) := by
  obtain ⟨d, ds, rfl⟩ := List.exists_cons_of_ne_nil hds
  obtain ⟨r, rs, rfl⟩ := List.exists_cons_of_length_eq_add_one hlen
  exact ⟨_, _, s.textWritten_cons r d rs ds (Nat.succ.inj hlen)⟩

end Sys2Proof.Machine
end

section
/-! INIT, WINT and RNDR (R120, R122, R123) from their calls to their returns, whatever called them, then from a request
to an idle sequencer (R142). -/

namespace Sys2Proof.Machine

/-! ## INIT (R120) -/

/-- What an optional delay leaves. -/
def State.gap (t : Option Nat) (s : State) : State := { s with trace := s.trace ++ gapEvents t }

theorem State.gap_none (s : State) : s.gap none = s := by simp [State.gap, gapEvents]

/-- The optional delay `t` at the label `l`, which is a step only where it is configured. -/
theorem leads_gap {go go' : State → State} {s : State} {rest : List Frame} (t : Option Nat) (l : InitLbl)
    (hskip : t = none → ∀ fs ts bs, go (s.running fs ts bs) = go' (s.running fs ts bs))
    (henter : ∀ ms, t = some ms → ∀ fs ts bs, go (s.running fs ts bs) = (s.running fs ts bs).goto (.init l) rest)
    (hdelay : ∀ ms, t = some ms → ∀ fs ts bs,
      initMicro l rest (s.running fs ts bs) = go' ((s.delay ms).running fs ts bs)) :
    Leads go s t.toList.length t.toList.length [] go' (s.gap t) := by
  cases t with
  | none =>
    rw [s.gap_none]
    exact (Leads.refl _ _).of_eq (hskip rfl)
  | some ms =>
    have hstep : Leads (State.goto (.init l) rest) s 1 1 [] go' (s.delay ms) :=
      .of_step rfl fun ts bs => ⟨_, hdelay ms rfl _ ts bs⟩
    exact hstep.of_eq (henter ms rfl)

/-- `I0`. -/
theorem leads_firstGap (rest : List Frame) (s : State) :
    Leads (callInit rest) s s.cfg.tInit0.toList.length s.cfg.tInit0.toList.length [] (initFirst rest)
      (s.gap s.cfg.tInit0) :=
  leads_gap (rest := rest) _ .i0 (fun h _ _ _ => by simp only [callInit, State.running, h])
    (fun _ h _ _ _ => by simp only [callInit, State.running, h])
    (fun _ h _ _ _ => by simp only [initMicro, State.running, h]; rfl)

/-- `I6`, after the call of `I5`. -/
theorem leads_lastGap (rest : List Frame) (s : State) :
    Leads (returnTo .cmdi (.init .i5 :: rest)) s s.cfg.tInit3.toList.length s.cfg.tInit3.toList.length []
      (initGated rest) (s.gap s.cfg.tInit3) :=
  leads_gap (rest := rest) _ .i6 (fun h _ _ _ => by simp only [returnTo, initAfter, State.running, h, Option.getD_some])
    (fun _ h _ _ _ => by simp only [returnTo, initAfter, State.running, h, Option.getD_some])
    (fun _ h _ _ _ => by simp only [initMicro, State.running, h]; rfl)

/-- `I2`, after the call of `I1`. -/
theorem leads_secondDelay (rest : List Frame) (s : State) :
    Leads (returnTo .cmdi (.init .i1 :: rest)) s 1 1 [] (callCmdi lcdFset8 (.init .i3 :: rest))
      (s.delay s.cfg.tInit1) :=
  .of_step (f := .init .i2) rfl fun _ _ => ⟨_, rfl⟩

/-- `I4`, after the call of `I3`. -/
theorem leads_thirdDelay (rest : List Frame) (s : State) :
    Leads (returnTo .cmdi (.init .i3 :: rest)) s 1 1 [] (callCmdi lcdFset8 (.init .i5 :: rest))
      (s.delay s.cfg.tInit2) :=
  .of_step (f := .init .i4) rfl fun _ _ => ⟨_, rfl⟩

/-- What INIT's three immediate commands leave, with the delays before, between and after them. -/
def State.poweredOn (s : State) : State :=
  { s with
    rs := false, rw := false, e := false, dbo := lcdFset8, v := lcdFset8
    trace := s.trace ++ (gapEvents s.cfg.tInit0 ++ writeEvents s.cfg.tPulse false lcdFset8 ++ [.delay s.cfg.tInit1] ++
      writeEvents s.cfg.tPulse false lcdFset8 ++ [.delay s.cfg.tInit2] ++ writeEvents s.cfg.tPulse false lcdFset8 ++
      gapEvents s.cfg.tInit3)
    lcd := s.lcd.takeAll s.cfg.lcdCols [.wrcmd lcdFset8, .wrcmd lcdFset8, .wrcmd lcdFset8] }

/-- INIT up to its first gated command. -/
theorem leads_powerOn (rest : List Frame) (s : State) :
    Leads (callInit rest) s (20 + s.cfg.tInit0.toList.length + s.cfg.tInit3.toList.length)
      (23 + s.cfg.tInit0.toList.length + s.cfg.tInit3.toList.length) [] (initGated rest) s.poweredOn := by
  have first := (leads_firstGap rest s).trans (leads_cmdi lcdFset8 (.init .i1 :: rest) _)
  have second := (first.trans (leads_secondDelay rest _)).trans (leads_cmdi lcdFset8 (.init .i3 :: rest) _)
  have third := (second.trans (leads_thirdDelay rest _)).trans (leads_cmdi lcdFset8 (.init .i5 :: rest) _)
  have all := third.trans (leads_lastGap rest _)
  refine all.congr ?turns ?steps ?state
  case turns =>
    change _ = s.cfg.tInit0.toList.length + 6 + 1 + 6 + 1 + 6 + s.cfg.tInit3.toList.length
    omega
  case steps =>
    change _ = s.cfg.tInit0.toList.length + 7 + 1 + 7 + 1 + 7 + s.cfg.tInit3.toList.length
    omega
  case state =>
    simp only [State.poweredOn, State.gap, State.setV, State.delay, State.emit, State.commandWritten, List.append_assoc]
    rfl

/-- INIT, whatever called it. -/
theorem leads_init (rest : List Frame) (s : State) {r1 r2 r3 r4 : Read} (hlive : ∀ r ∈ [r1, r2, r3, r4], r.Live) :
    Leads (callInit rest) s (20 + s.cfg.tInit0.toList.length + s.cfg.tInit3.toList.length)
      (23 + s.cfg.tInit0.toList.length + s.cfg.tInit3.toList.length) [r1, r2, r3, r4] (returnTo .init rest)
      (s.written false lcdDispOnCb r4.last (initEvents s.cfg r1 r2 r3 r4) (initTxns r1 r2 r3 r4)) := by
  simp only [List.forall_mem_cons] at hlive
  obtain ⟨h1, h2, h3, h4, -⟩ := hlive
  have mode := (leads_powerOn rest s).trans (leads_cmd lcdFset8TwoLine (.init .i7 :: rest) _ h1)
  have entry := mode.trans (leads_cmd lcdEntryInc (.init .i8 :: rest) _ h2)
  have clear := entry.trans (leads_cmd lcdClear (.init .i9 :: rest) _ h3)
  have on := clear.trans (leads_cmd lcdDispOnCb (.init .i10 :: rest) _ h4)
  refine on.congr rfl rfl ?_
  simp only [State.commanded, State.written_written]
  simp only [State.written, State.poweredOn, initEvents, initTxns, Lcd.takeAll_append, List.append_assoc]

/-- Settles O15: INIT with nothing to return to. -/
theorem initCompletes : Obligations.InitCompletes := by
  intro s r1 r2 r3 r4 bs ts hidle hreads hturns
  refine ⟨_, exec_request hidle.1 rfl, ?_⟩
  refine ((leads_init [] (s.emit (.opStart .init)) hreads.1).completes hidle hreads hturns).trans ?_
  obtain ⟨hs, hl⟩ := hidle
  simp only [State.written, State.emit, State.running, hs, hl, List.append_assoc]

/-! ## WINT (R122) -/

/-- The text of a number above 0 begins with its least significant digit (R88, R122). -/
theorem digits_text {n : Nat} (hn : n ≠ 0) :
    (Nat.digits 10 n).map digitChar = digitOf n :: (Nat.digits 10 (n / decBase)).map digitChar := by
  rw [Nat.digits_of_two_le_of_pos (by decide) (Nat.pos_of_ne_zero hn), List.map_cons]
  rfl

theorem wintMicro_of_zero (rest : List Frame) {s : State} (hn : s.n = 0) :
    wintMicro rest s = returnTo .wint rest s := by
  rw [wintMicro, wintTest, if_pos hn, Option.getD_none]

theorem wintMicro_of_ne_zero (rest : List Frame) {s : State} (hn : s.n ≠ 0) :
    wintMicro rest s = callDat (digitOf s.n) (.wint .n2 :: rest) s := by
  rw [wintMicro, wintTest, if_neg hn, Option.getD_some]

/-- WINT from its test on, by induction on the reads, one a digit. -/
theorem leads_wintMicro (rest : List Frame) {rs : List Read} (hlive : ∀ r ∈ rs, r.Live) (s : State)
    (hn : s.n < 2 ^ s.cfg.intw) (hlen : rs.length = ((Nat.digits 10 s.n).map digitChar).length) :
    Leads (wintMicro rest) s 0 0 rs (returnTo .wint rest)
      ((s.setN 0).textWritten rs ((Nat.digits 10 s.n).map digitChar)) := by
  induction rs generalizing s with
  | nil =>
    have hzero : s.n = 0 := Nat.digits_eq_nil_iff_eq_zero.mp
      (List.map_eq_nil_iff.mp (List.length_eq_zero_iff.mp hlen.symm))
    have hs : s.setN 0 = s := by rw [State.setN, Nat.zero_mod, ← hzero]
    rw [hs]
    exact (Leads.refl _ s).of_eq fun _ _ _ => wintMicro_of_zero rest hzero
  | cons r rs ih =>
    obtain ⟨hr, hrs⟩ := List.forall_mem_cons.mp hlive
    have hpos : s.n ≠ 0 := fun h => by simp [h] at hlen
    rw [digits_text hpos] at hlen ⊢
    have first : Leads (wintMicro rest) s 0 0 [r] (returnTo .dat (.wint .n2 :: rest))
        (s.displayed r (digitOf s.n)) :=
      (leads_dat (digitOf s.n) (.wint .n2 :: rest) s hr).of_eq fun _ _ _ => wintMicro_of_ne_zero rest hpos
    have hnext : (s.displayed r (digitOf s.n)).shrinkN.n = s.n / decBase := shrinkN_exact (s.displayed r _) hn
    have others := ih hrs (s.displayed r (digitOf s.n)).shrinkN
      (hnext.trans_lt ((Nat.div_le_self _ _).trans_lt hn)) (hnext ▸ Nat.succ.inj hlen)
    rw [hnext] at others
    exact first.trans (others.of_eq fun _ _ _ => rfl)

/-- WINT of a number that fits its register, whatever called it. -/
theorem leads_wint (rest : List Frame) {rs : List Read} (hlive : ∀ r ∈ rs, r.Live) (s : State) {n : Nat}
    (hn : n < 2 ^ s.cfg.intw) (hlen : rs.length = ((Nat.digits 10 n).map digitChar).length) :
    Leads (callWint n rest) s 0 0 rs (returnTo .wint rest)
      ((s.setN 0).textWritten rs ((Nat.digits 10 n).map digitChar)) := by
  have hload : (s.setN n).n = n := setN_exact s n hn
  have hrun := leads_wintMicro rest hlive (s.setN n) (hload.trans_lt hn) (hload.symm ▸ hlen)
  rw [hload] at hrun
  exact hrun.of_eq fun _ _ _ => rfl

/-- Settles O17: the test before the first digit fails. -/
theorem wintZeroWritesNothing : Obligations.WintZeroWritesNothing := by
  intro s hs
  have hcall : callWint 0 [] (s.emit (.opStart .wint)) = returnTo .wint [] ((s.emit (.opStart .wint)).setN 0) :=
    wintMicro_of_zero [] (Nat.zero_mod _)
  rw [exec_request hs rfl, State.accept, hcall, returnTo]
  simp only [State.emit, State.setN, State.setSeq, Nat.zero_mod, hs, List.append_assoc]
  rfl

/-- Settles O16: WINT with nothing to return to. -/
theorem wintWritesDigitsReversed : Obligations.WintWritesDigitsReversed := by
  intro s n rs bs ts hidle hpos hn hlen hreads hturns
  rw [← List.length_map (as := Nat.digits 10 n) digitChar] at hlen
  have hrun := leads_wint [] hreads.1 (s.emit (.opStart .wint)) hn hlen
  rw [digits_text hpos.ne'] at hlen hrun ⊢
  obtain ⟨r, rs, rfl⟩ := List.exists_cons_of_length_eq_add_one hlen
  rw [State.textWritten_cons _ _ _ _ _ (Nat.succ.inj hlen)] at hrun
  have hend := hrun.completes hidle hreads (by rwa [Nat.zero_add])
  rw [Nat.zero_add] at hend
  refine ⟨_, _, exec_request hidle.1 rfl, hend, ?record, List.getLast?_cons.symm, ?sample⟩
  case record =>
    obtain ⟨hs, hl⟩ := hidle
    simp only [State.written, State.setN, State.emit, State.running, Nat.zero_mod, hs, hl, List.append_assoc]
  case sample =>
    rw [List.map_cons, List.getLast?_cons]
    rfl

/-! ## RNDR (R123) -/

section
variable (rest : List Frame) {s : State}

theorem returnTo_labelLast (hi : s.i = 7) :
    returnTo .dat (.rndr .d1 :: rest) s = (s.setI 0).goto (.rndr .d2a) rest := by
  rw [returnTo, rndrAfter, if_pos hi, Option.getD_some]

theorem returnTo_labelNext (hi : s.i ≠ 7) :
    returnTo .dat (.rndr .d1 :: rest) s =
      callDat (labelByte (s.i + 1)) (.rndr .d1 :: rest) (s.setI (s.i + 1)) := by
  rw [returnTo, rndrAfter, if_neg hi, Option.getD_some]

theorem returnTo_packetLast (hi : s.i = 3) :
    returnTo .dat (.rndr .d2b :: rest) s = callCmd lcdDdramL2 (.rndr .d3 :: rest) s := by
  rw [returnTo, rndrAfter, if_pos hi, Option.getD_some]

theorem returnTo_packetNext (hi : s.i ≠ 3) :
    returnTo .dat (.rndr .d2b :: rest) s = (s.setI (s.i + 1)).goto (.rndr .d2a) rest := by
  rw [returnTo, rndrAfter, if_neg hi, Option.getD_some]

end

/-- After the label's character `j` comes the one that `I` points to next (R31, R89). -/
theorem label_drop : ∀ j < 7, label.drop (j + 1) = labelByte (BitVec.ofNat 4 (j + 1)) :: label.drop (j + 2) := by decide

/-- The label from the return of the DAT of its character `j` on, by induction on the reads still to come. -/
theorem leads_label (rest : List Frame) {rl : List Read} (hlive : ∀ r ∈ rl, r.Live) (j : Nat) (hj : rl.length + j = 7)
    (s : State) (hi : s.i = BitVec.ofNat 4 j) :
    Leads (returnTo .dat (.rndr .d1 :: rest)) s 0 0 rl (State.goto (.rndr .d2a) rest)
      ((s.setI 0).textWritten rl (label.drop (j + 1))) := by
  induction rl generalizing j s with
  | nil =>
    obtain rfl : j = 7 := by simpa using hj
    exact (Leads.refl _ (s.setI 0)).of_eq fun _ _ _ => returnTo_labelLast rest hi
  | cons r rl ih =>
    obtain ⟨hr, hrl⟩ := List.forall_mem_cons.mp hlive
    have hj7 : j < 7 := by rw [List.length_cons] at hj; omega
    have hnot : ∀ j < 7, BitVec.ofNat 4 j ≠ 7 := by decide
    have hsucc : s.i + 1 = BitVec.ofNat 4 (j + 1) := by rw [hi, BitVec.ofNat_add]; rfl
    have next : Leads (returnTo .dat (.rndr .d1 :: rest)) s 0 0 [r] (returnTo .dat (.rndr .d1 :: rest))
        ((s.setI (s.i + 1)).displayed r (labelByte (s.i + 1))) :=
      (leads_dat (labelByte (s.i + 1)) (.rndr .d1 :: rest) (s.setI (s.i + 1)) hr).of_eq
        fun _ _ _ => returnTo_labelNext rest (hi.trans_ne (hnot j hj7))
    have others := ih hrl (j + 1) (by rw [List.length_cons] at hj; omega)
      ((s.setI (s.i + 1)).displayed r (labelByte (s.i + 1))) hsucc
    rw [label_drop j hj7, ← hsucc]
    exact next.trans others

/-- RNDR's label, after the clear. -/
theorem leads_labelFromFirst (rest : List Frame) {rl : List Read} (hlive : ∀ r ∈ rl, r.Live) (hlen : rl.length = 8)
    (s : State) :
    Leads (returnTo .cmd (.rndr .d0 :: rest)) s 0 0 rl (State.goto (.rndr .d2a) rest)
      ((s.setI 0).textWritten rl label) := by
  obtain ⟨r, rl, rfl⟩ := List.exists_cons_of_length_eq_add_one hlen
  obtain ⟨hr, hrl⟩ := List.forall_mem_cons.mp hlive
  have first : Leads (returnTo .cmd (.rndr .d0 :: rest)) s 0 0 [r] (returnTo .dat (.rndr .d1 :: rest))
      ((s.setI 0).displayed r (labelByte 0)) :=
    (leads_dat (labelByte 0) (.rndr .d1 :: rest) (s.setI 0) hr).of_eq fun _ _ _ => rfl
  exact first.trans (leads_label rest hrl 0 (Nat.succ.inj hlen) ((s.setI 0).displayed r (labelByte 0)) rfl)

/-- What RNDR leaves of the packet byte that `I` points to. -/
def State.packetByteWritten (q : Read) (s : State) : State :=
  s.written true (s.pkt.get (packetIndex s.i)) q.last
    (packetEvents s.cfg.tPulse q (packetIndex s.i) (s.pkt.get (packetIndex s.i)))
    (datTxns q (s.pkt.get (packetIndex s.i)))

/-- A packet byte: the read of the packet, then its DAT. -/
theorem leads_packetByte (rest : List Frame) (s : State) {q : Read} (hq : q.Live) :
    Leads (State.goto (.rndr .d2a) rest) s 1 1 [q] (returnTo .dat (.rndr .d2b :: rest)) (s.packetByteWritten q) := by
  have fetched : Leads (State.goto (.rndr .d2a) rest) s 1 1 []
      (callDat (s.pkt.get (packetIndex s.i)) (.rndr .d2b :: rest)) (s.readPkt (packetIndex s.i)) :=
    .of_step rfl fun _ _ => ⟨_, rfl⟩
  refine (fetched.trans (leads_dat _ (.rndr .d2b :: rest) _ hq)).congr rfl rfl ?_
  simp only [State.packetByteWritten, State.displayed, State.written, State.readPkt, packetEvents, List.append_assoc]

/-- The packet byte after the one at `j`. -/
theorem leads_nextPacketByte (rest : List Frame) (s : State) (j : BitVec 4) (hi : s.i = j) (hj : j ≠ 3) {q : Read}
    (hq : q.Live) :
    Leads (returnTo .dat (.rndr .d2b :: rest)) s 1 1 [q] (returnTo .dat (.rndr .d2b :: rest))
      ((s.setI (j + 1)).packetByteWritten q) := by
  subst hi
  exact (leads_packetByte rest (s.setI (s.i + 1)) hq).of_eq fun _ _ _ => returnTo_packetNext rest hj

/-- The last command, after the last packet byte. -/
theorem leads_secondLine (rest : List Frame) (s : State) (hi : s.i = 3) {r : Read} (hr : r.Live) :
    Leads (returnTo .dat (.rndr .d2b :: rest)) s 0 0 [r] (returnTo .rndr rest) (s.commanded r lcdDdramL2) :=
  (leads_cmd lcdDdramL2 (.rndr .d3 :: rest) s hr).of_eq fun _ _ _ => returnTo_packetLast rest hi

/-- The four packet bytes. -/
theorem leads_packet (rest : List Frame) (s : State) (hi : s.i = 0) {q0 q1 q2 q3 : Read}
    (h0 : q0.Live) (h1 : q1.Live) (h2 : q2.Live) (h3 : q3.Live) :
    Leads (State.goto (.rndr .d2a) rest) s 4 4 [q0, q1, q2, q3] (returnTo .dat (.rndr .d2b :: rest))
      ((s.setI 3).written true s.pkt.p3 q3.last
        (packetEvents s.cfg.tPulse q0 0 s.pkt.p0 ++ packetEvents s.cfg.tPulse q1 1 s.pkt.p1 ++
          packetEvents s.cfg.tPulse q2 2 s.pkt.p2 ++ packetEvents s.cfg.tPulse q3 3 s.pkt.p3)
        (datTxns q0 s.pkt.p0 ++ datTxns q1 s.pkt.p1 ++ datTxns q2 s.pkt.p2 ++ datTxns q3 s.pkt.p3)) := by
  have two := (leads_packetByte rest s h0).trans
    (leads_nextPacketByte rest (s.packetByteWritten q0) 0 hi (by decide) h1)
  have three := two.trans (leads_nextPacketByte rest _ 1 rfl (by decide) h2)
  have four := three.trans (leads_nextPacketByte rest _ 2 rfl (by decide) h3)
  refine four.congr rfl rfl ?_
  simp only [State.packetByteWritten, State.written, State.setI, Lcd.takeAll_append, List.append_assoc, hi]
  rfl

/-- RNDR, whatever called it. -/
theorem leads_rndr (rest : List Frame) (s : State) {r0 q0 q1 q2 q3 r1 : Read} {rl : List Read}
    (hlive : ∀ r ∈ r0 :: rl ++ [q0, q1, q2, q3, r1], r.Live) (hlen : rl.length = 8) :
    Leads (callRndr rest) s 4 4 (r0 :: rl ++ [q0, q1, q2, q3, r1]) (returnTo .rndr rest)
      ((s.setI 3).written false lcdDdramL2 r1.last (rndrEvents s.cfg.tPulse s.pkt r0 rl q0 q1 q2 q3 r1)
        (rndrTxns s.pkt r0 rl q0 q1 q2 q3 r1)) := by
  simp only [List.cons_append, List.forall_mem_cons, List.forall_mem_append] at hlive
  obtain ⟨h0, hl, hq0, hq1, hq2, hq3, h1, -⟩ := hlive
  have text := (leads_cmd lcdClear (.rndr .d0 :: rest) s h0).trans (leads_labelFromFirst rest hl hlen _)
  obtain ⟨b, last, htext⟩ := State.textWritten_eq_written (ds := label) hlen (List.cons_ne_nil _ _)
    ((s.commanded r0 lcdClear).setI 0)
  rw [htext] at text
  have packet := text.trans (leads_packet rest _ rfl hq0 hq1 hq2 hq3)
  have line := packet.trans (leads_secondLine rest _ rfl h1)
  rw [List.append_assoc] at line
  refine line.congr rfl rfl ?_
  simp only [State.commanded, State.written, State.setI, rndrEvents, rndrTxns, Lcd.takeAll_append, List.append_assoc]

/-- Settles O18: RNDR with nothing to return to. -/
theorem rndrCompletes : Obligations.RndrCompletes := by
  intro s r0 rl q0 q1 q2 q3 r1 bs ts hidle hlen hreads hturns
  have hend := (leads_rndr [] (s.emit (.opStart .rndr)) hreads.1 hlen).completes hidle hreads hturns
  refine ⟨_, _, exec_request hidle.1 rfl, hend, ?_⟩
  obtain ⟨hs, hl⟩ := hidle
  simp only [State.written, State.setI, State.emit, State.running, hs, hl, List.append_assoc]

/-- Settles O29: the micro-step at `D2a`, which calls the DAT of the byte it has read. -/
theorem rndrReadsPacketLive : Obligations.RndrReadsPacketLive := by
  intro s rest b hs
  have hread : exec .rndr s = .next (frameStep (.rndr .d2a) rest s) := exec_frameInstr (n := s.n) hs rfl
  exact ⟨_, _, hread, rfl, rfl, State.storeByte_seq _ b, State.storeByte_v _ b⟩

end Sys2Proof.Machine
end

section
/-! What the serial side's single steps leave (R130, R134): a byte received, the flag cleared, and the two in either
order. -/

namespace Sys2Proof.Machine

/-- The flag after a byte, by what the index was (R130). -/
theorem State.readyAfterByte_eq_ite (s : State) :
    s.readyAfterByte = if s.rxidx = 3 then true else s.ready := by
  split
  case isTrue h => exact s.readyAfterByte_of_last h
  case isFalse h => exact s.readyAfterByte_of_not_last h

/-- Settles O25: the handler's store, with the flag told apart by the index. -/
theorem rxbStoresByte : Obligations.RxbStoresByte := by
  intro s b
  rw [exec_rxb, State.storeByte_frame, State.readyAfterByte_eq_ite]
  rfl

/-- CLRF on top clears the flag, whatever it was, and returns (R134). -/
theorem exec_clrf_top {s : State} {rest : List Frame} (hs : s.seq = .clrf :: rest) :
    exec .clrf s = .next (returnTo .clrf rest s.clearFlag) := exec_frameInstr (n := s.n) hs rfl

/-- CLRF returns to a DISP, which goes with it (R140). -/
theorem returnTo_clrf_disp (rest : List Frame) (s : State) :
    returnTo .clrf (.disp .l3 :: rest) s = returnTo .disp rest s := rfl

/-- Settles O22: the flag is cleared in the micro-step, and the stack beneath says what ends with it. -/
theorem clrfCompletes : Obligations.ClrfCompletes := by
  intro s
  refine ⟨fun hs => ?host, fun hs => ?hostedDisp, fun hs => ?mainDisp⟩
  case host =>
    refine ⟨_, exec_request hs rfl, (exec_clrf_top (rest := []) rfl).trans ?_⟩
    simp only [returnTo, State.accept, callClrf, State.goto, State.setSeq, State.clearFlag, State.emit,
      List.append_assoc, hs]
    rfl
  case hostedDisp =>
    rw [exec_clrf_top hs, returnTo_clrf_disp]
    simp only [returnTo, State.setSeq, State.clearFlag, State.emit, List.append_assoc, List.cons_append,
      List.nil_append]
  case mainDisp =>
    rw [exec_clrf_top hs, returnTo_clrf_disp]
    simp only [returnTo, mainNext, callDisp, State.goto, State.setSeq, State.clearFlag, State.emit, List.append_assoc,
      List.cons_append, List.nil_append]

/-- Settles O28: the later of the two steps decides the flag, and only RXB writes the packet and the index. -/
theorem clearAndFourthByteRace : Obligations.ClearAndFourthByteRace := by
  rintro s b _ hs rfl hindex
  have clears (t : State) (ht : t.seq = [.clrf, .disp .l3]) := (clrfCompletes t).2.1 ht
  have sets (t : State) (ht : t.rxidx = 3) : (t.storeByte b).ready = true := (State.storeByte_of_last b ht).2
  exact ⟨_, _, _, _, exec_rxb b s, clears (s.storeByte b) ((s.storeByte_seq b).trans hs), clears s hs, exec_rxb b _,
    rfl, sets _ hindex, rfl, rfl⟩

end Sys2Proof.Machine
end

section
/-! TXB and XPKT (R131, R133) from their calls to their returns, whatever called them, then from a request to an idle
sequencer (R142). -/

namespace Sys2Proof.Machine

/-! ## The transmit loop (R131) -/

/-- One poll whose answer is on the tape. -/
theorem State.pollTx_of_given {s : State} {r : Bool} {bs : List Bool} (h : s.txhw.given = r :: bs) :
    s.pollTx = { s with txhw := { s.txhw with given := bs }, trace := s.trace ++ [.txPoll r] } := by
  have htail : s.txhw.tail = { s.txhw with given := bs } := Tape.tail_of_given _ _ _ h
  have hhead : s.nextTxReady = r := Tape.head_of_given _ _ _ _ h
  rw [State.pollTx, htail, hhead]

/-- What the polls leave, `k` of which said "not ready", with the answers `bs` to come. -/
def State.polled (k : Nat) (bs : List Bool) (s : State) : State :=
  { s with txhw := { s.txhw with given := bs }, trace := s.trace ++ pollEvents k }

/-- The frame `wait` polls the transmitter and becomes `ready` as soon as the answer says so. -/
structure PollLoop (i : Instr) (wait ready : Frame) : Prop where
  instr n : frameInstr n wait = some i
  poll rest s : frameStep wait rest s = s.pollTx.goto (if s.nextTxReady then ready else wait) rest

theorem txb_pollLoop (b : Byte) : PollLoop (.txb b) (.txb .x0 b) (.txb .x1 b) where
  instr _ := rfl
  poll _ s := by simp only [frameStep, txbMicro]; cases s.nextTxReady <;> rfl

theorem xpkt_pollLoop : PollLoop .xpkt (.xpkt .e0) (.xpkt .e1) where
  instr _ := rfl
  poll _ s := by simp only [frameStep, xpktMicro]; cases s.nextTxReady <;> rfl

section
variable {i : Instr} {wait ready : Frame} (rest : List Frame) {s : State} {bs : List Bool}

/-- One poll. -/
theorem PollLoop.leads_poll (h : PollLoop i wait ready) {r : Bool} (hr : s.txhw.given = r :: bs) :
    Leads (State.goto wait rest) s 1 1 [] (State.goto (if r then ready else wait) rest) s.pollTx := by
  have hhead : s.nextTxReady = r := Tape.head_of_given _ _ _ _ hr
  subst hhead
  exact .of_step (h.instr s.n) fun _ _ => ⟨_, h.poll rest _⟩

/-- All of them, by induction on those that say "not ready". -/
theorem PollLoop.leads_ready (h : PollLoop i wait ready) {k : Nat} (hpolls : s.txhw.given = pollBits k ++ bs) :
    Leads (State.goto wait rest) s (k + 1) (k + 1) [] (State.goto ready rest) (s.polled k bs) := by
  induction k generalizing s with
  | zero => exact (h.leads_poll rest hpolls).congr rfl rfl (State.pollTx_of_given hpolls).symm
  | succ k ih =>
    have hfirst : s.txhw.given = false :: (pollBits k ++ bs) := hpolls
    have hpoll := State.pollTx_of_given hfirst
    have others := (h.leads_poll rest hfirst).trans (ih (s := s.pollTx) (by rw [hpoll]))
    refine others.congr (by omega) (by omega) ?_
    simp only [hpoll, State.polled, List.append_assoc]
    rfl

end

/-! ## TXB (R131) -/

/-- TXB, whatever called it. -/
theorem leads_txb (b : Byte) (rest : List Frame) {s : State} {k : Nat} {bs : List Bool}
    (hpolls : s.Polls [k] bs) :
    Leads (callTxb b rest) s (k + 2) (k + 2) [] (returnTo .txb rest) (((s.setV b).polled k bs).writeTx b) := by
  have hgiven : (s.setV b).txhw.given = pollBits k ++ bs := by simpa [State.Polls] using hpolls
  have polls : Leads (callTxb b rest) s (k + 1) (k + 1) [] (State.goto (.txb .x1 b) rest) ((s.setV b).polled k bs) :=
    ((txb_pollLoop b).leads_ready rest hgiven).of_eq fun _ _ _ => rfl
  have write : Leads (State.goto (.txb .x1 b) rest) ((s.setV b).polled k bs) 1 1 [] (returnTo .txb rest)
      (((s.setV b).polled k bs).writeTx b) := .of_step rfl fun _ _ => ⟨_, rfl⟩
  exact polls.trans write

/-- Settles O20: TXB with nothing to return to. -/
theorem txbCompletes : Obligations.TxbCompletes := by
  intro s b k bs ts hidle hpolls hturns
  have hrun := leads_txb b [] (s := s.emit (.opStart .txb)) hpolls
  refine ⟨_, exec_request hidle.1 rfl, (hrun.completes hidle ⟨nofun, rfl⟩ hturns).trans ?_⟩
  obtain ⟨hs, hl⟩ := hidle
  simp only [State.polled, State.writeTx, State.setV, State.emit, State.running, hs, hl, List.append_assoc]
  rfl

/-! ## XPKT (R133) -/

/-- What the echo of the packet byte that `I` points to leaves, with the answers `bs` to come. -/
def State.echoed (k : Nat) (bs : List Bool) (s : State) : State :=
  { s with
    v := s.pkt.get (packetIndex s.i)
    txhw := { s.txhw with given := bs }
    trace := s.trace ++ echoEvents k (packetIndex s.i) (s.pkt.get (packetIndex s.i)) }

/-- The same action by action. -/
theorem State.echoed_eq (k : Nat) (bs : List Bool) (s : State) :
    s.echoed k bs = ((s.polled k bs).readPkt (packetIndex s.i)).writeTx (s.pkt.get (packetIndex s.i)) := by
  simp only [State.echoed, State.polled, State.readPkt, State.writeTx, State.emit, echoEvents, List.append_assoc]
  rfl

section
variable (rest : List Frame) {s : State} {k : Nat} {bs : List Bool}

/-- The polls for a byte, then the read of the packet. -/
theorem leads_echoRead (hpolls : s.txhw.given = pollBits k ++ bs) :
    Leads (State.goto (.xpkt .e0) rest) s (k + 2) (k + 2) [] (State.goto (.xpkt .e2) rest)
      ((s.polled k bs).readPkt (packetIndex s.i)) := by
  have read : Leads (State.goto (.xpkt .e1) rest) (s.polled k bs) 1 1 [] (State.goto (.xpkt .e2) rest)
      ((s.polled k bs).readPkt (packetIndex s.i)) := .of_step rfl fun _ _ => ⟨_, rfl⟩
  exact (xpkt_pollLoop.leads_ready rest hpolls).trans read

/-- A packet byte before the last: the loop goes on. -/
theorem leads_echoNext (j : BitVec 4) (hpolls : s.txhw.given = pollBits k ++ bs) (hi : s.i = j) (hj : j ≠ 3) :
    Leads (State.goto (.xpkt .e0) rest) s (k + 3) (k + 3) [] (State.goto (.xpkt .e0) rest)
      ((s.echoed k bs).setI (j + 1)) := by
  subst hi
  rw [State.echoed_eq]
  have write : Leads (State.goto (.xpkt .e2) rest) ((s.polled k bs).readPkt (packetIndex s.i)) 1 1 []
      (State.goto (.xpkt .e0) rest)
      ((((s.polled k bs).readPkt (packetIndex s.i)).writeTx (s.pkt.get (packetIndex s.i))).setI (s.i + 1)) :=
    .of_step rfl fun _ _ => ⟨_, if_neg hj⟩
  exact (leads_echoRead rest hpolls).trans write

/-- The last packet byte: XPKT returns. -/
theorem leads_echoLast (hpolls : s.txhw.given = pollBits k ++ bs) (hi : s.i = 3) :
    Leads (State.goto (.xpkt .e0) rest) s (k + 3) (k + 3) [] (returnTo .xpkt rest) (s.echoed k bs) := by
  rw [State.echoed_eq]
  have write : Leads (State.goto (.xpkt .e2) rest) ((s.polled k bs).readPkt (packetIndex s.i)) 1 1 []
      (returnTo .xpkt rest)
      (((s.polled k bs).readPkt (packetIndex s.i)).writeTx (s.pkt.get (packetIndex s.i))) :=
    .of_step rfl fun _ _ => ⟨_, if_pos hi⟩
  exact (leads_echoRead rest hpolls).trans write

end

/-- What XPKT leaves: `V` is the last byte, and `I` stays at its last value (log entry 10). -/
def State.packetEchoed (k0 k1 k2 k3 : Nat) (bs : List Bool) (s : State) : State :=
  { s with
    v := s.pkt.p3, i := 3
    txhw := { s.txhw with given := bs }
    trace := s.trace ++ xpktEvents s.pkt k0 k1 k2 k3 }

/-- XPKT, whatever called it: its loop, byte by byte. -/
theorem leads_xpkt (rest : List Frame) {s : State} {k0 k1 k2 k3 : Nat} {bs : List Bool}
    (hpolls : s.Polls [k0, k1, k2, k3] bs) :
    Leads (callXpkt rest) s (xpktTurns [k0, k1, k2, k3]) (xpktTurns [k0, k1, k2, k3]) [] (returnTo .xpkt rest)
      (s.packetEchoed k0 k1 k2 k3 bs) := by
  have hgiven : s.txhw.given = pollBits k0 ++ (pollBits k1 ++ (pollBits k2 ++ (pollBits k3 ++ bs))) := by
    simpa [State.Polls] using hpolls
  have one : Leads (callXpkt rest) s (k0 + 3) (k0 + 3) [] (State.goto (.xpkt .e0) rest) _ :=
    (leads_echoNext rest (s := s.setI 0) 0 hgiven rfl (by decide)).of_eq fun _ _ _ => rfl
  have two := one.trans (leads_echoNext rest 1 rfl rfl (by decide))
  have three := two.trans (leads_echoNext rest 2 rfl rfl (by decide))
  have four := three.trans (leads_echoLast rest rfl rfl)
  have hcount : xpktTurns [k0, k1, k2, k3] = k0 + 3 + (k1 + 3) + (k2 + 3) + (k3 + 3) := by
    simp only [xpktTurns, List.map_cons, List.map_nil, List.sum_cons, List.sum_nil]
    omega
  refine four.congr hcount hcount ?_
  simp only [State.packetEchoed, State.echoed, State.setI, xpktEvents, List.append_assoc]
  rfl

/-- Settles O21: XPKT with nothing to return to. -/
theorem xpktCompletes : Obligations.XpktCompletes := by
  intro s k0 k1 k2 k3 bs ts hidle hpolls hturns
  have hrun := leads_xpkt [] (s := s.emit (.opStart .xpkt)) hpolls
  refine ⟨_, _, exec_request hidle.1 rfl, hrun.completes hidle ⟨nofun, rfl⟩ hturns, ?_⟩
  obtain ⟨hs, hl⟩ := hidle
  simp only [State.packetEchoed, State.emit, State.running, hs, hl, List.append_assoc]

end Sys2Proof.Machine
end

section
/-! A busy sequencer takes no request, and an idle one without a request stands still (R142). -/

namespace Sys2Proof.Machine

/-! ## One visible action, then internal computation (R11) -/

/-- The visible action that the label of the top frame names: on the lines, or off them. At a `call` line, at an
optional delay that is not configured, and in WINT and MAIN there is none. -/
def Frame.action (f : Frame) (s : State) : State :=
  match f with
  | .rdyw .w4 | .cmdi .c4 _ | .cmd .k5 _ | .dat .t5 _ => s.delay s.cfg.tPulse
  | .init .i0 => s.gap s.cfg.tInit0
  | .init .i2 => s.delay s.cfg.tInit1
  | .init .i4 => s.delay s.cfg.tInit2
  | .init .i6 => s.gap s.cfg.tInit3
  | .rndr .d2a | .xpkt .e1 => s.readPkt (packetIndex s.i)
  | .txb .x0 _ | .xpkt .e0 => s.pollTx
  | .txb .x1 b => s.writeTx b
  | .xpkt .e2 => s.writeTx s.v
  | .clrf => s.clearFlag
  | .disp .l0 => s.readFlag
  | f => f.lineAction s

section
variable (rest : List Frame) (s : State)

theorem initMicro_internal (l : InitLbl) : (initMicro l rest s).InternalOf (Frame.action (.init l) s) := by
  cases l
  case i0 =>
    simp only [initMicro, Frame.action]
    cases s.cfg.tInit0 with
    | none => rw [s.gap_none]; exact initFirst_internal s rest
    | some ms => exact initFirst_internal _ rest
  case i6 =>
    simp only [initMicro, Frame.action]
    cases s.cfg.tInit3 with
    | none => rw [s.gap_none]; exact initGated_internal s rest
    | some ms => exact initGated_internal _ rest
  case i1 => exact initFirst_internal s rest
  case i2 | i3 | i4 | i5 => exact callCmdi_internal _ _ _
  case i7 => exact initGated_internal s rest
  case i8 | i9 | i10 => exact callCmd_internal _ _ _

theorem xpktMicro_internal (l : XpktLbl) : (xpktMicro l rest s).InternalOf (Frame.action (.xpkt l) s) := by
  cases l
  case e0 | e1 => exact State.goto_internal _ rest _
  case e2 =>
    simp only [xpktMicro]
    split
    · exact returnTo_internal rest .xpkt _
    · exact (State.goto_internal _ rest _).trans (State.setI_internal _ _)

theorem dispMicro_internal (l : DispLbl) : (dispMicro l rest s).InternalOf (Frame.action (.disp l) s) := by
  cases l
  case l0 =>
    simp only [dispMicro]
    split
    · exact callRndr_internal _ _
    · exact returnTo_internal rest .disp _
  case l1 => exact callRndr_internal _ _
  case l2 => exact callXpkt_internal _ _
  case l3 => exact callClrf_internal _ _

/-- A micro-step is the visible action of its label, and then internal computation alone. -/
theorem frameStep_internal (f : Frame) : (frameStep f rest s).InternalOf (f.action s) := by
  cases f with
  | rdyw l => cases l with
    | w8 => exact returnTo_internal rest .rdyw _
    | _ => exact State.goto_internal _ rest _
  | cmdi l c => cases l with
    | c5 => exact returnTo_internal rest .cmdi _
    | _ => exact State.goto_internal _ rest _
  | cmd l c => cases l with
    | k0 => exact callRdyw_internal _ _
    | k6 => exact returnTo_internal rest .cmd _
    | _ => exact State.goto_internal _ rest _
  | dat l d => cases l with
    | t0 => exact callRdyw_internal _ _
    | t6 => exact returnTo_internal rest .dat _
    | _ => exact State.goto_internal _ rest _
  | init l => exact initMicro_internal rest s l
  | wint l => exact wintMicro_internal rest s
  | rndr l => cases l with
    | d0 | d3 => exact callCmd_internal _ _ _
    | d1 | d2a | d2b => exact callDat_internal _ _ _
  | txb l b => cases l with
    | x0 => exact State.goto_internal _ rest _
    | x1 => exact returnTo_internal rest .txb _
  | xpkt l => exact xpktMicro_internal rest s l
  | clrf => exact returnTo_internal rest .clrf _
  | disp l => exact dispMicro_internal rest s l
  | main l => exact .refl s

/-! ## What the host presents -/

variable {s} {t : State}

theorem State.InternalOf.host (h : t.InternalOf s) : t.host = s.host := by
  obtain ⟨he, -⟩ := h
  rw [he]

theorem Frame.lineAction_host (f : Frame) (s : State) : (f.lineAction s).host = s.host := by
  unfold Frame.lineAction
  split <;> rfl

/-- No visible action uses what the host presents. -/
theorem Frame.action_host (f : Frame) (s : State) : (f.action s).host = s.host := by
  unfold Frame.action
  split
  case h_17 => exact f.lineAction_host s
  all_goals rfl

theorem frameStep_host (f : Frame) (rest : List Frame) (s : State) : (frameStep f rest s).host = s.host :=
  (frameStep_internal rest s f).host.trans (f.action_host s)

end

/-- MAIN, woken, has called an operation (R141), so only an idle sequencer is idle once awake. -/
theorem State.seq_eq_nil_of_wake {s : State} (h : s.wake.seq = []) : s.seq = [] := by
  unfold State.wake at h
  split at h
  next =>
    unfold mainStart callInit at h
    split at h <;> cases h
  next => cases h
  next => exact h

/-- Settles O7: of a step's effects only those at an idle sequencer use what the host presents. -/
theorem busySequencerTakesNoRequest : Obligations.BusySequencerTakesNoRequest := by
  intro s t hbusy h
  have hwake : s.takeTurn.wake.seq ≠ [] := fun hnil => hbusy (State.seq_eq_nil_of_wake (s := s.takeTurn) hnil)
  rcases step_effect h with ⟨w, -, rfl⟩ | ⟨-, b, -, rfl⟩ | ⟨-, -, hq⟩
  · rfl
  · rfl
  · rcases hq with ⟨f, rest, -, rfl⟩ | ⟨hnil, -⟩ | ⟨hnil, -⟩
    · exact (frameStep_host f rest _).trans s.takeTurn.wake_internal.host
    · exact absurd hnil hwake
    · exact absurd hnil hwake

/-! ## A host that presents nothing -/

theorem fetchSeq_noRequest {s : State} (hs : s.seq = []) (hc : s.cfg.top = .hosted) (ho : s.nextOffer = none) :
    fetchSeq s = .idle s.takeOffer := by
  simp only [fetchSeq, s.wake_of_nil hs, hs, fetchRequest, hc, ho]

/-- Settles O8: nothing is fetched, and the step runs nothing. -/
theorem idleWithoutRequestChangesNothing : Obligations.IdleWithoutRequestChangesNothing := by
  intro s ⟨hs, hl⟩ hturn hhosted hoffer
  have hfetch : fetch s = .idle s.takeTurn.takeOffer :=
    (fetch_seq hl hturn).trans (fetchSeq_noRequest (s := s.takeTurn) hs hhosted hoffer)
  simp only [step, hfetch]
  rfl

end Sys2Proof.Machine
end

section
/-! DISP (R140): with the flag clear its one micro-step, with the flag set render, echo and clear. -/

namespace Sys2Proof.Machine

/-! ## The flag clear (R140 (a)) -/

section
variable (rest : List Frame) {s : State}

theorem dispMicro_of_clear (hf : s.ready = false) : dispMicro .l0 rest s = returnTo .disp rest s.readFlag :=
  if_neg (Bool.not_eq_true _ ▸ hf)

theorem dispMicro_of_set (hf : s.ready = true) : dispMicro .l0 rest s = callRndr (.disp .l1 :: rest) s.readFlag :=
  if_pos hf

/-- DISP at its first label reads the flag and, finding it clear, returns. -/
theorem exec_disp_of_clear (hs : s.seq = .disp .l0 :: rest) (hf : s.ready = false) :
    exec .disp s = .next (returnTo .disp rest s.readFlag) := by
  rw [exec_frameInstr (n := s.n) hs rfl, frameStep, dispMicro_of_clear rest hf]

end

/-- Settles O23: what stands beneath DISP says what its return adds. -/
theorem dispWithFlagClear : Obligations.DispWithFlagClear := by
  intro s hf
  refine ⟨fun hs => ?host, fun hs => ?inMain⟩
  case host =>
    have hread := exec_disp_of_clear (s := s.accept .disp callDisp) [] rfl hf
    refine ⟨_, exec_request hs rfl, hread.trans ?_⟩
    simp only [returnTo, State.accept, callDisp, State.goto, State.setSeq, State.readFlag, State.emit,
      List.append_assoc, hs, hf]
    rfl
  case inMain =>
    rw [exec_disp_of_clear [.main .m1] hs hf]
    simp only [returnTo, mainNext, callDisp, State.goto, State.setSeq, State.readFlag, State.emit, List.append_assoc,
      hs, hf]
    rfl

/-! ## The flag set (R140 (b)) -/

section
variable (rest : List Frame) {s : State}

/-- `L0` with the flag set calls RNDR. -/
theorem leads_flagSet (hf : s.ready = true) :
    Leads (callDisp rest) s 1 1 [] (callRndr (.disp .l1 :: rest)) s.readFlag :=
  .of_step rfl fun _ _ => ⟨_, dispMicro_of_set rest hf⟩

/-- After RNDR comes XPKT. -/
theorem leads_echo {k0 k1 k2 k3 : Nat} {ps : List Bool} (hpolls : s.Polls [k0, k1, k2, k3] ps) :
    Leads (returnTo .rndr (.disp .l1 :: rest)) s (xpktTurns [k0, k1, k2, k3]) (xpktTurns [k0, k1, k2, k3]) []
      (returnTo .xpkt (.disp .l2 :: rest)) (s.packetEchoed k0 k1 k2 k3 ps) :=
  (leads_xpkt (.disp .l2 :: rest) hpolls).of_eq fun _ _ _ => rfl

/-- After XPKT the flag is cleared, and DISP returns. -/
theorem leads_clearFlag (s : State) :
    Leads (returnTo .xpkt (.disp .l2 :: rest)) s 1 1 [] (returnTo .disp rest) s.clearFlag :=
  Leads.of_step (f := .clrf) (rest := .disp .l3 :: rest) rfl fun _ _ => ⟨_, rfl⟩

/-- What DISP leaves when it has served a packet. -/
def State.packetServed (r0 : Read) (rl : List Read) (q0 q1 q2 q3 r1 : Read) (k0 k1 k2 k3 : Nat) (ps : List Bool)
    (s : State) : State :=
  { s with
    ready := false, dir := .out, rs := false, rw := false, e := false
    dbo := lcdDdramL2, v := s.pkt.p3, stat := r1.last, i := 3
    txhw := { s.txhw with given := ps }
    trace := s.trace ++ ([.flagRead true] ++ rndrEvents s.cfg.tPulse s.pkt r0 rl q0 q1 q2 q3 r1 ++
      xpktEvents s.pkt k0 k1 k2 k3 ++ [.flagClear])
    lcd := s.lcd.takeAll s.cfg.lcdCols (rndrTxns s.pkt r0 rl q0 q1 q2 q3 r1) }

/-- DISP with the flag set, whatever called it: render, echo, clear. -/
theorem leads_disp (hf : s.ready = true) {r0 q0 q1 q2 q3 r1 : Read} {rl : List Read} {k0 k1 k2 k3 : Nat}
    {ps : List Bool} (hlive : ∀ r ∈ r0 :: rl ++ [q0, q1, q2, q3, r1], r.Live) (hlen : rl.length = 8)
    (hpolls : s.Polls [k0, k1, k2, k3] ps) :
    Leads (callDisp rest) s (1 + 4 + xpktTurns [k0, k1, k2, k3] + 1) (1 + 4 + xpktTurns [k0, k1, k2, k3] + 1)
      (r0 :: rl ++ [q0, q1, q2, q3, r1]) (returnTo .disp rest)
      (s.packetServed r0 rl q0 q1 q2 q3 r1 k0 k1 k2 k3 ps) := by
  have render := (leads_flagSet rest hf).trans (leads_rndr (.disp .l1 :: rest) s.readFlag hlive hlen)
  have echo := render.trans (leads_echo rest hpolls)
  have clear := echo.trans (leads_clearFlag rest _)
  rw [List.nil_append, List.append_nil, List.append_nil] at clear
  refine clear.congr rfl rfl ?_
  simp only [State.packetServed, State.packetEchoed, State.clearFlag, State.written, State.setI, State.readFlag,
    State.emit, List.append_assoc, hf]

end

/-- Settles O24: DISP with nothing to return to. -/
theorem dispServesPacket : Obligations.DispServesPacket := by
  intro s r0 rl q0 q1 q2 q3 r1 k0 k1 k2 k3 bs ps ts hidle hf hlen hreads hpolls hturns
  have hcount (m p : Nat) : 1 + (4 + m) + p + 1 = 1 + 4 + p + 1 + m := by omega
  rw [rndrTurns, hcount] at hturns
  rw [rndrSteps, hcount]
  have hend := (leads_disp [] (s := s.emit (.opStart .disp)) hf hreads.1 hlen hpolls).completes hidle hreads hturns
  refine ⟨_, _, exec_request hidle.1 rfl, hend, ?_⟩
  obtain ⟨hs, hl⟩ := hidle
  simp only [State.packetServed, State.emit, State.running, hs, hl, List.append_assoc]
  rfl

end Sys2Proof.Machine
end

section
/-! From reset through INIT to the first DISP (R141, R158, R181). -/

namespace Sys2Proof.Machine

/-! ## INIT's transactions on the LCD of power-on (R158) -/

section
variable (cols : Nat) {l : Lcd}

/-- A status read within INIT that does not follow one that was not busy. -/
theorem Lcd.takeStatus_withinInit (hg : l.gated = false) (h3 : 3 ≤ l.initAt) (b : Byte) :
    l.takeStatus b = { l with gated := !busyFlag b, polled := true } := by
  have hat : l.initAfterStatus = l.initAt := if_neg (by simp [hg, h3])
  rw [Lcd.takeStatus, hat]

/-- A whole ready-wait within INIT, by induction on its busy samples. -/
theorem Lcd.takeAll_readTxns {r : Read} (hr : r.Live) (hg : l.gated = false) (h3 : 3 ≤ l.initAt) :
    l.takeAll cols r.txns = { l with gated := true, polled := true } := by
  obtain ⟨busy, last⟩ := r
  obtain ⟨hbusy, hlast⟩ := hr
  induction busy generalizing l with
  | nil =>
    have hready : l.takeStatus last = { l with gated := true, polled := true } := by
      rw [Lcd.takeStatus_withinInit hg h3, hlast]
      rfl
    exact hready
  | cons b busy ih =>
    obtain ⟨hb, hbusy⟩ := List.forall_mem_cons.mp hbusy
    have hwait : l.takeStatus b = { l with polled := true } := by
      rw [Lcd.takeStatus_withinInit hg h3, hb, Bool.not_true, ← hg]
    exact (congrArg (Lcd.takeAll cols (Read.txns ⟨busy, last⟩)) hwait).trans (ih hg h3 hbusy hlast)

/-- The LCD agent when `j` of the writes of power-on's INIT have come, at least the function sets, and the view is
`k`. -/
def Lcd.poweringOn (j : Nat) (k : Screen) : Lcd where
  view     := .known k
  gated    := false
  polled   := false
  fsets    := 3
  powerOn  := j == 3
  initAt   := j
  initDone := j == 7
  ended    := 0

/-- The three function sets of power-on. -/
theorem Lcd.takeAll_fsets_reset :
    (Lcd.reset cols).takeAll cols [.wrcmd lcdFset8, .wrcmd lcdFset8, .wrcmd lcdFset8] =
      .poweringOn 3 (Screen.reset cols).fset8 := rfl

/-- A gated command of power-on's INIT. -/
theorem Lcd.takeAll_cmdTxns_poweringOn {r : Read} (hr : r.Live) (c : Byte) {j : Nat} (hj : 3 ≤ j) (k : Screen) :
    (Lcd.poweringOn j k).takeAll cols (cmdTxns r c) =
      ({ Lcd.poweringOn j k with gated := true, polled := true } : Lcd).takeAnyCommand cols c := by
  rw [cmdTxns, Lcd.takeAll_append, Lcd.takeAll_readTxns cols hr rfl hj]
  rfl

/-- From power-on a complete INIT on a live LCD leaves the view R158 gives: each gated command is INIT's next write. -/
theorem Lcd.takeAll_initTxns_reset {r1 r2 r3 r4 : Read} (hlive : ∀ r ∈ [r1, r2, r3, r4], r.Live) :
    (Lcd.reset cols).takeAll cols (initTxns r1 r2 r3 r4) = .poweringOn 7 (Screen.configured cols) := by
  simp only [List.forall_mem_cons] at hlive
  obtain ⟨h1, h2, h3, h4, -⟩ := hlive
  have mode (k : Screen) :
      (Lcd.poweringOn 3 k).takeAll cols (cmdTxns r1 lcdFset8TwoLine) = .poweringOn 4 k.fset8TwoLine :=
    Lcd.takeAll_cmdTxns_poweringOn cols h1 _ (by decide) k
  have entry (k : Screen) : (Lcd.poweringOn 4 k).takeAll cols (cmdTxns r2 lcdEntryInc) = .poweringOn 5 k.entryInc :=
    Lcd.takeAll_cmdTxns_poweringOn cols h2 _ (by decide) k
  have clear (k : Screen) : (Lcd.poweringOn 5 k).takeAll cols (cmdTxns r3 lcdClear) = .poweringOn 6 (k.clear cols) :=
    Lcd.takeAll_cmdTxns_poweringOn cols h3 _ (by decide) k
  have on (k : Screen) : (Lcd.poweringOn 6 k).takeAll cols (cmdTxns r4 lcdDispOnCb) = .poweringOn 7 k.dispOnCb :=
    Lcd.takeAll_cmdTxns_poweringOn cols h4 _ (by decide) k
  simp only [initTxns, Lcd.takeAll_append, Lcd.takeAll_fsets_reset, mode, entry, clear, on]
  rfl

end

/-! ## MAIN woken (R11, R141) -/

/-- The operation that MAIN calls stands above it. -/
theorem State.wake_seq_ne_main (s : State) (l : MainLbl) (rest : List Frame) : s.wake.seq ≠ .main l :: rest := by
  unfold State.wake
  split
  next =>
    unfold mainStart callInit
    split <;> nofun
  next => nofun
  next hstart hnext =>
    cases l
    case m0 => exact hstart rest
    case m1 => exact hnext rest

theorem State.wake_of_ne_main {s : State} (h : ∀ l rest, s.seq ≠ .main l :: rest) : s.wake = s := by
  unfold State.wake
  split
  next hs => exact absurd hs (h _ _)
  next hs => exact absurd hs (h _ _)
  next => rfl

theorem State.wake_takeTurn (s : State) : s.takeTurn.wake = s.wake.takeTurn := by
  unfold State.wake
  rw [State.takeTurn_seq]
  split
  next =>
    unfold mainStart callInit
    rw [State.emit_cfg, State.takeTurn_cfg, State.emit_cfg]
    split <;> rfl
  next => rfl
  next => rfl

/-- Waking MAIN belongs to the micro-step that follows: the step from the state woken is the same. -/
theorem step_wake {s : State} (hl : s.lcdIn = none) (hturn : s.nextTurn = .seq) : step s.wake = step s := by
  obtain ⟨hframe, -⟩ := s.wake_internal
  have hl' : s.wake.lcdIn = none := by rw [hframe, hl]
  have hturn' : s.wake.nextTurn = .seq := by rw [hframe]; exact hturn
  have hwoken : s.wake.takeTurn.wake = s.takeTurn.wake := by
    rw [State.wake_takeTurn, State.wake_takeTurn, State.wake_of_ne_main s.wake_seq_ne_main]
  have hfetch : fetch s.wake = fetch s := by
    rw [fetch_seq hl' hturn', fetch_seq hl hturn, fetchSeq, fetchSeq, hwoken]
  rw [step, step, hfetch]

theorem steps_wake {s : State} (hl : s.lcdIn = none) (hturn : s.nextTurn = .seq) {k : Nat} (hk : 0 < k) :
    steps k s.wake = steps k s := by
  obtain ⟨k, rfl⟩ := Nat.exists_eq_add_one.mpr hk
  rw [steps, steps, step_wake hl hturn]

theorem State.SeqTurns.nextTurn {s : State} {k : Nat} {ts : List Turn} (h : s.SeqTurns k ts) (hk : 0 < k) :
    s.nextTurn = .seq := by
  obtain ⟨k, rfl⟩ := Nat.exists_eq_add_one.mpr hk
  have hgiven : s.turns.given = .seq :: (List.replicate k .seq ++ ts) := h
  exact Tape.head_of_given _ _ _ _ hgiven

/-! ## The first INIT, and what follows it (R141, R181) -/

/-- MAIN right after reset runs INIT and starts the first DISP. -/
theorem steps_boot {s : State} {r1 r2 r3 r4 : Read} {bs : List Byte} {ts : List Turn} (hs : s.seq = [.main .m0])
    (hl : s.lcdIn = none) (hreads : s.Reads [r1, r2, r3, r4] bs)
    (hturns : s.SeqTurns (initTurns s.cfg [r1, r2, r3, r4]) ts) :
    ∃ fs, steps (initSteps s.cfg [r1, r2, r3, r4]) s =
      .next (mainNext [] ((((s.emit (.opStart .init)).written false lcdDispOnCb r4.last
        (initEvents s.cfg r1 r2 r3 r4) (initTxns r1 r2 r3 r4)).running fs ts bs).emit (.opDone .init))) := by
  obtain ⟨fs, hrun⟩ := leads_init [.main .m0] (s.emit (.opStart .init)) hreads.1 s.seq ts bs
  have hstart : s.emit (.opStart .init) = (s.emit (.opStart .init)).running s.seq _ _ :=
    State.running_of_fields hl rfl hturns hreads.2
  have hwake : s.wake = callInit [.main .m0] (s.emit (.opStart .init)) := by
    rw [State.wake, hs]
    rfl
  have hturn : s.nextTurn = .seq := hturns.nextTurn (by rw [initTurns]; omega)
  refine ⟨fs, ?_⟩
  rw [← steps_wake hl hturn (by rw [initSteps]; omega), hwake, hstart]
  exact hrun

/-- Settles O50: MAIN's frame is all there is at reset, so INIT is the first operation, and what INIT leaves is the
start of DISP with R158's view. -/
theorem bootRunsInitThenDisp : Obligations.BootRunsInitThenDisp := by
  intro c s r1 r2 r3 r4 bs ts hauto hreset hreads hturns
  have hcfg : s.cfg = c := congrArg State.cfg hreset
  have hseq : s.seq = [.main .m0] := by
    obtain ⟨-, -, -, -, -, -, hmain, -⟩ := resetValues c
    exact (congrArg State.seq hreset).trans (hmain hauto)
  have htrace : s.trace = [] := congrArg State.trace hreset
  have hlcd : s.lcd = Lcd.reset c.lcdCols := congrArg State.lcd hreset
  subst hcfg
  obtain ⟨fs, hrun⟩ := steps_boot hseq (congrArg State.lcdIn hreset) hreads hturns
  refine ⟨_, hrun, rfl, congrArg State.ready hreset, congrArg State.rxidx hreset, ?trace, ?view⟩
  case trace =>
    change s.trace ++ [.opStart .init] ++ _ ++ [.opDone .init] ++ [.opStart .disp] = _
    rw [htrace, List.append_assoc _ [_] [_]]
    rfl
  case view =>
    change (s.lcd.takeAll s.cfg.lcdCols _).view = _
    rw [hlcd, Lcd.takeAll_initTxns_reset _ hreads.1]
    rfl

end Sys2Proof.Machine
end

section
/-! What one transaction does to the LCD agent: when it is taken at its word, what it makes of a known view and of an
unknown one (R150 to R159). -/

namespace Sys2Proof.Machine

/-! ## A command write, whatever its byte -/

/-- What the command byte `c` does to a known view: the six of R87, and nothing known for another (R159). -/
def Screen.command (cols : Nat) (c : Byte) (k : Screen) : Option Screen :=
  match decodeLcdcmd c.toNat with
  | .ok .fset8 => some k.fset8
  | .ok .fset8TwoLine => some k.fset8TwoLine
  | .ok .entryInc => some k.entryInc
  | .ok .clear => some (k.clear cols)
  | .ok .dispOnCb => some k.dispOnCb
  | .ok .ddramL2 => some k.ddramL2
  | _ => none

section
variable {cols : Nat} {c : Byte} {k k' : Screen} {l : Lcd}

theorem Lcd.takeAnyCommand_eq : l.takeAnyCommand cols c = l.takeCommand cols c (Screen.command cols c) := by
  unfold Lcd.takeAnyCommand Screen.command
  cases decodeLcdcmd c.toNat with
  | error e => rfl
  | ok i => cases i <;> rfl

theorem Lcd.takeAnyCommand_initAt : (l.takeAnyCommand cols c).initAt = l.initAdvance c := by
  rw [Lcd.takeAnyCommand_eq, Lcd.takeCommand_initAt]

theorem Lcd.takeAnyCommand_initDone : (l.takeAnyCommand cols c).initDone = (l.initDone || l.completesInit c) := by
  rw [Lcd.takeAnyCommand_eq, Lcd.takeCommand_initDone]

theorem Lcd.takeAnyCommand_gated : (l.takeAnyCommand cols c).gated = false := by
  rw [Lcd.takeAnyCommand_eq, Lcd.takeCommand_gated]

theorem Lcd.takeAnyCommand_polled : (l.takeAnyCommand cols c).polled = false := by
  rw [Lcd.takeAnyCommand_eq, Lcd.takeCommand_polled]

/-- A write of a named byte taken at its word acts on a known view. -/
theorem Lcd.takeAnyCommand_view_of_known (ha : l.admitsCommand c = true) (hv : l.view = .known k)
    (hc : k.command cols c = some k') : (l.takeAnyCommand cols c).view = .known k' := by
  rw [Lcd.takeAnyCommand_eq, Lcd.takeCommand_known _ _ _ _ hv, if_pos ha]
  simp only [View.update, hc]

theorem Lcd.takeAnyCommand_view_of_unknown (ha : l.admitsCommand c = true) (hv : l.view = .unknown) :
    (l.takeAnyCommand cols c).view = l.revived cols c := by
  rw [Lcd.takeAnyCommand_eq, Lcd.takeCommand_unknown _ _ _ _ hv, if_pos ha]

/-! ## Where a command write stands in INIT (R120) -/

/-- The writes of INIT that come gated, with how many writes precede them. -/
theorem initWrites_gated_iff {n : Nat} :
    (3 ≤ n ∧ c ≠ lcdFset8 ∧ initWrites[n]? = some c) ↔
      n = 3 ∧ c = lcdFset8TwoLine ∨ n = 4 ∧ c = lcdEntryInc ∨ n = 5 ∧ c = lcdClear ∨ n = 6 ∧ c = lcdDispOnCb := by
  constructor
  · rintro ⟨h3, -, hn⟩
    match n, h3, hn with
    | 3, _, rfl | 4, _, rfl | 5, _, rfl | 6, _, rfl => decide
  · rintro (⟨rfl, rfl⟩ | ⟨rfl, rfl⟩ | ⟨rfl, rfl⟩ | ⟨rfl, rfl⟩) <;> decide

/-- Only a clear is INIT's sixth write. -/
theorem Lcd.eq_clear_of_initAdvance (h : l.initAdvance c = 6) : c = lcdClear := by
  unfold Lcd.initAdvance at h
  split at h
  next => split_ifs at h <;> omega
  next =>
    split at h
    next hnext =>
      obtain ⟨-, -, hwrite⟩ := hnext
      rw [show l.initAt = 5 by omega] at hwrite
      exact (Option.some.inj hwrite).symm
    next => cases h

theorem Lcd.initAdvance_fset8_bounds : 1 ≤ l.initAdvance lcdFset8 ∧ l.initAdvance lcdFset8 ≤ 3 := by
  rw [Lcd.initAdvance, if_pos rfl]
  split_ifs <;> omega

/-- A function set with no status read before it goes on with INIT's, or stands for the third of them. -/
theorem Lcd.takeAnyCommand_fset8_initAt (hp : l.polled = false) (h : l.initAt ≤ 3) :
    (l.takeAnyCommand cols lcdFset8).initAt = min (l.initAt + 1) 3 := by
  rw [Lcd.takeAnyCommand_initAt, Lcd.initAdvance, if_pos rfl]
  simp only [hp, and_true]
  split_ifs <;> omega

/-! ## What ends an unknown view (R158, R159) -/

theorem Lcd.revived_clear (hd : l.initDone = true) : l.revived cols lcdClear = .known (l.afterClear cols) :=
  if_pos (by simp [Lcd.clearsAfterInit, hd])

theorem Lcd.revived_dispOnCb (h6 : l.initAt = 6) (hg : l.gated = true) :
    l.revived cols lcdDispOnCb = .known (Screen.configured cols) :=
  (if_neg (by simp [Lcd.clearsAfterInit, lcdDispOnCb, lcdClear])).trans
    (if_pos ((l.completesInit_iff _).mpr ⟨rfl, h6, hg⟩))

/-- A write that is neither a clear after a complete INIT nor the last of an INIT ends no unknown view. -/
theorem Lcd.revived_eq_unknown (hclear : c ≠ lcdClear ∨ l.initDone = false)
    (hlast : c ≠ lcdDispOnCb ∨ l.initAt ≠ 6) : l.revived cols c = .unknown := by
  have hnoclear : ¬l.clearsAfterInit c = true := by
    rcases hclear with h | h <;> simp [Lcd.clearsAfterInit, h]
  have hnolast : ¬l.completesInit c = true := by
    rw [l.completesInit_iff]
    rintro ⟨hc, h6, -⟩
    exact hlast.elim (· hc) (· h6)
  rw [Lcd.revived, if_neg hnoclear, if_neg hnolast]

theorem Lcd.takeAnyCommand_view_stays_unknown (hv : l.view = .unknown) (hclear : c ≠ lcdClear ∨ l.initDone = false)
    (hlast : c ≠ lcdDispOnCb ∨ l.initAt ≠ 6) : (l.takeAnyCommand cols c).view = .unknown := by
  rw [Lcd.takeAnyCommand_eq, Lcd.takeCommand_unknown _ _ _ _ hv, Lcd.revived_eq_unknown hclear hlast, ite_self]

/-- The last write of an INIT makes the view R158's, where that is what the command byte makes of a known one. -/
theorem Lcd.takeAnyCommand_last_view (hg : l.gated = true) (h6 : l.initAt = 6)
    (hk : ∀ k, l.view = .known k → k.dispOnCb = Screen.configured cols) :
    (l.takeAnyCommand cols lcdDispOnCb).view = .known (Screen.configured cols) := by
  have ha : l.admitsCommand lcdDispOnCb = true := (l.admitsCommand_gated_iff _ hg).mpr (.inr (by rw [h6]; decide))
  cases hv : l.view with
  | known k => exact Lcd.takeAnyCommand_view_of_known ha hv (congrArg some (hk k hv))
  | unknown => rw [Lcd.takeAnyCommand_view_of_unknown ha hv, Lcd.revived_dispOnCb h6 hg]

/-! ## The character at the cursor (R156) -/

theorem Screen.put_one {n : Nat} (d : Byte) (he : k.entry = .incrementNoShift) (hc : k.cur = some (.one, n))
    (hn : n < cols) :
    k.put cols d = some { k with line1 := k.line1.set n (.byte d), cur := some (.one, n + 1) } := by
  simp [Screen.put, he, hc, hn]

theorem Screen.put_two {n : Nat} (d : Byte) (he : k.entry = .incrementNoShift) (hc : k.cur = some (.two, n))
    (hn : n < cols) :
    k.put cols d = some { k with line2 := k.line2.set n (.byte d), cur := some (.two, n + 1) } := by
  simp [Screen.put, he, hc, hn]

theorem Screen.put_none (d : Byte)
    (h : k.entry = .unset ∨ k.cur = none ∨ ∃ x n, k.cur = some (x, n) ∧ cols ≤ n) : k.put cols d = none := by
  rcases h with he | hc | ⟨x, n, hc, hn⟩
  · simp [Screen.put, he]
  · simp [Screen.put, hc]
  · cases he : k.entry <;> simp [Screen.put, he, hc, Nat.not_lt.mpr hn]

/-- A data write taken at its word puts the character on a known view. -/
theorem Lcd.takeData_view_of_known (d : Byte) (hv : l.view = .known k) (hg : l.gated = true)
    (hd : l.initDone = true) : (l.takeData cols d).view = (View.known k).update (Screen.put cols d) := by
  rw [Lcd.takeData_view, if_pos (by simp [Lcd.admitsData, hg, hd]), hv]

theorem Lcd.takeData_view_of_not_admitted (d : Byte) (h : l.gated = false ∨ l.initDone = false) :
    (l.takeData cols d).view = .unknown := by
  rw [Lcd.takeData_view, if_neg (by rcases h with h | h <;> simp [Lcd.admitsData, h])]

/-! ## The statements about one transaction -/

/-- A command write acts on a known view where it is taken at its word. -/
theorem Lcd.takeCommand_view_of_iff {f : Screen → Screen} {p : Prop} [Decidable p] (hv : l.view = .known k)
    (hp : l.admitsCommand c = true ↔ p) :
    (l.takeCommand cols c fun k => some (f k)).view = if p then .known (f k) else .unknown := by
  rw [Lcd.takeCommand_known _ _ _ _ hv]
  exact if_congr hp rfl rfl

end

/-- Settles O31, byte by byte: a gated write is taken at its word after a complete INIT, or where the byte is INIT's
next. -/
theorem commandBytesActOnView : Obligations.CommandBytesActOnView := by
  intro s k hv hg
  have admits (c : Byte) := (s.lcd.admitsCommand_gated_iff c hg).trans (or_congr_right initWrites_gated_iff)
  refine ⟨_, _, _, _, _, _, rfl, rfl, rfl, rfl, rfl, rfl, ?_, ?_, ?_, ?_, ?_, ?_⟩
  all_goals exact Lcd.takeCommand_view_of_iff hv ((admits _).trans
    (by simp [lcdFset8, lcdFset8TwoLine, lcdEntryInc, lcdClear, lcdDispOnCb, lcdDdramL2]))

/-- Settles O32: an ungated write is taken at its word only as a function set of power-on. -/
theorem ungatedWrites : Obligations.UngatedWrites := by
  intro s c d hg
  refine ⟨fun k hv hp hf => ⟨_, rfl, ?_⟩, fun hc => ⟨_, rfl, ?_⟩, _, rfl, Lcd.takeData_view_of_not_admitted d (.inl hg)⟩
  · exact (Lcd.takeCommand_known _ _ _ _ hv).trans
      (if_pos ((s.lcd.admitsCommand_ungated_iff _ hg).mpr ⟨rfl, hp, hf⟩))
  · have hnot : s.lcd.admitsCommand c = false := by
      rw [← Bool.not_eq_true, s.lcd.admitsCommand_ungated_iff c hg]
      rintro ⟨rfl, hp, hf⟩
      rcases hc with hc | hc | hc
      · exact hc rfl
      · exact Bool.false_ne_true (hc.symm.trans hp)
      · omega
    exact (congrArg Lcd.view Lcd.takeAnyCommand_eq).trans (Lcd.takeCommand_not_admitted _ _ _ _ hnot)

/-- Settles O34, from where `Screen.put` places a character and where it does not. -/
theorem dataWritePlacesCharacter : Obligations.DataWritePlacesCharacter := by
  intro s k d hv hg
  refine ⟨_, rfl, fun hd => ⟨fun c he hc hn => ?_, fun c he hc hn => ?_, fun h => ?_⟩, fun hd =>
    Lcd.takeData_view_of_not_admitted d (.inr hd)⟩ <;>
    refine (Lcd.takeData_view_of_known d hv hg hd).trans ?_
  · simp only [View.update, Screen.put_one d he hc hn]
  · simp only [View.update, Screen.put_two d he hc hn]
  · simp only [View.update, Screen.put_none d h]

/-- Settles O35: a status read writes only what the agent keeps of the transactions. -/
theorem statusReadLeavesView : Obligations.StatusReadLeavesView := fun s b => ⟨_, rfl, s.lcd.takeStatus_view b⟩

/-! ## An unknown view (R159) -/

/-- A transaction that is no clear keeps a view unknown and does not take up an INIT just before its last write. -/
theorem Lcd.take_keeps_unknown (cols : Nat) {l : Lcd} {t : Txn} (ht : t ≠ .wrcmd lcdClear) (hv : l.view = .unknown)
    (h6 : l.initAt ≠ 6) : (l.take cols t).view = .unknown ∧ (l.take cols t).initAt ≠ 6 := by
  cases t with
  | wrcmd c =>
    have hc : c ≠ lcdClear := fun h => ht (congrArg Txn.wrcmd h)
    exact ⟨Lcd.takeAnyCommand_view_stays_unknown hv (.inl hc) (.inr h6),
      fun h => hc (Lcd.eq_clear_of_initAdvance (Lcd.takeAnyCommand_initAt.symm.trans h))⟩
  | wrdata d =>
    have hview : (l.takeData cols d).view = .unknown := by rw [Lcd.takeData_view, hv, View.update_unknown, ite_self]
    exact ⟨hview, Nat.zero_ne_add_one 5⟩
  | rdstat b =>
    have hat : l.initAfterStatus ≠ 6 := by
      unfold Lcd.initAfterStatus
      split_ifs
      · exact Nat.zero_ne_add_one 5
      · exact h6
    exact ⟨hv, hat⟩
  | delay ms => exact ⟨hv, h6⟩

/-- The same along any transactions. -/
theorem Lcd.takeAll_keeps_unknown (cols : Nat) {ts : List Txn} (hts : .wrcmd lcdClear ∉ ts) {l : Lcd}
    (hv : l.view = .unknown) (h6 : l.initAt ≠ 6) : (l.takeAll cols ts).view = .unknown := by
  induction ts generalizing l with
  | nil => exact hv
  | cons t ts ih =>
    obtain ⟨hne, hts⟩ := not_or.mp (mt List.mem_cons.mpr hts)
    obtain ⟨hv, h6⟩ := Lcd.take_keeps_unknown cols (Ne.symm hne) hv h6
    exact ih hts hv h6

/-- Settles O36: along other transactions by induction; what ends an unknown view is what `Lcd.revived` makes of the
write. -/
theorem unknownViewStaysUnknown : Obligations.UnknownViewStaysUnknown := by
  intro cols ts l hv
  refine ⟨fun hts h6 => ?stays, fun hd => ?before, fun hd hg => ?cleared, fun h6 hg => ?configured⟩
  case stays => exact Lcd.takeAll_keeps_unknown cols (fun hmem => hts _ hmem rfl) hv h6
  case before => exact Lcd.takeAnyCommand_view_stays_unknown hv (.inr hd) (.inl (by decide))
  case cleared =>
    have ha : l.admitsCommand lcdClear = true := (l.admitsCommand_gated_iff _ hg).mpr (.inl hd)
    exact ⟨_, (Lcd.takeAnyCommand_view_of_unknown ha hv).trans (Lcd.revived_clear hd), rfl, rfl, rfl, rfl⟩
  case configured => exact Lcd.takeAnyCommand_last_view hg h6 fun k hk => by simp [hv] at hk

end Sys2Proof.Machine
end

section
/-! What the transactions of a whole INIT and of a whole RNDR leave of the view (R120, R123, R158). -/

namespace Sys2Proof.Machine

section
variable {cols : Nat} {l : Lcd}

/-! ## A ready-wait and the write after it (R111, R113, R114) -/

/-- The LCD agent after a ready-wait on a live LCD, with `n` of INIT's writes counted. -/
def Lcd.afterReady (n : Nat) (l : Lcd) : Lcd := { l with gated := true, polled := true, initAt := n }

/-- A whole ready-wait leaves a gated LCD and the view as it was; where it leaves INIT's count depends on what came
before. -/
theorem Lcd.takeAll_readTxns_ready {r : Read} (hr : r.Live) :
    ∃ n, l.takeAll cols r.txns = l.afterReady n := by
  obtain ⟨busy, last⟩ := r
  obtain ⟨hbusy, hlast⟩ := hr
  induction busy generalizing l with
  | nil =>
    have hready : l.takeStatus last = l.afterReady l.initAfterStatus := by
      rw [Lcd.takeStatus, hlast]
      rfl
    exact ⟨_, hready⟩
  | cons b busy ih => exact ih (l := l.takeStatus b) (List.forall_mem_cons.mp hbusy).2 hlast

theorem Lcd.takeAll_cmdTxns {r : Read} (hr : r.Live) (c : Byte) :
    ∃ n, l.takeAll cols (cmdTxns r c) = (l.afterReady n).takeAnyCommand cols c := by
  obtain ⟨n, hn⟩ := Lcd.takeAll_readTxns_ready hr
  exact ⟨n, by rw [cmdTxns, Lcd.takeAll_append, hn]; rfl⟩

theorem Lcd.takeAll_datTxns {r : Read} (hr : r.Live) (d : Byte) :
    ∃ n, l.takeAll cols (datTxns r d) = (l.afterReady n).takeData cols d := by
  obtain ⟨n, hn⟩ := Lcd.takeAll_readTxns_ready hr
  exact ⟨n, by rw [datTxns, Lcd.takeAll_append, hn]; rfl⟩

/-- Within INIT the ready-wait leaves INIT's count too. -/
theorem Lcd.takeAll_cmdTxns_withinInit {r : Read} (hr : r.Live) (hg : l.gated = false) (h3 : 3 ≤ l.initAt) (c : Byte) :
    l.takeAll cols (cmdTxns r c) = (l.afterReady l.initAt).takeAnyCommand cols c := by
  rw [cmdTxns, Lcd.takeAll_append, Lcd.takeAll_readTxns cols hr hg h3]
  rfl

/-! ## A complete INIT, whatever came before (R120, R158) -/

/-- The LCD agent between two writes of INIT, when `j` of them have come, at least the function sets: the view, where it
is known, is as `p` says. -/
structure Lcd.InitRunning (p : Screen → Prop) (j : Nat) (l : Lcd) : Prop where
  initAt : l.initAt = j
  ungated : l.gated = false
  screen : ∀ k, l.view = .known k → p k

/-- Three function sets take up INIT from anywhere: after the first at least one of INIT's writes has come, and each
of the others is the next or stands for the third. -/
theorem Lcd.takeAll_fsets_initRunning :
    (l.takeAll cols [.wrcmd lcdFset8, .wrcmd lcdFset8, .wrcmd lcdFset8]).InitRunning (fun _ => True) 3 where
  initAt := by
    have first : 1 ≤ (l.takeAnyCommand cols lcdFset8).initAt ∧ (l.takeAnyCommand cols lcdFset8).initAt ≤ 3 := by
      rw [Lcd.takeAnyCommand_initAt]
      exact Lcd.initAdvance_fset8_bounds
    have second := Lcd.takeAnyCommand_fset8_initAt (cols := cols) Lcd.takeAnyCommand_polled first.2
    have third := Lcd.takeAnyCommand_fset8_initAt (cols := cols) Lcd.takeAnyCommand_polled
      (second.trans_le (Nat.min_le_right _ _))
    exact third.trans (by omega)
  ungated := Lcd.takeAnyCommand_gated (cols := cols) (c := lcdFset8)
  screen := fun _ _ => trivial

/-- A gated write of INIT, not the last: it acts on a known view, and what it makes of an unknown one is a screen that
the write leaves as well. -/
theorem Lcd.InitRunning.next {p q : Screen → Prop} {j : Nat} {r : Read} {c : Byte} (h : l.InitRunning p j)
    (hr : r.Live) (hc : 3 ≤ j ∧ c ≠ lcdFset8 ∧ initWrites[j]? = some c)
    (hknown : ∀ k, p k → ∃ k', k.command cols c = some k' ∧ q k')
    (hrevived : ∀ (m : Lcd) k, m.initAdvance c = j + 1 → m.revived cols c = .known k → q k) :
    (l.takeAll cols (cmdTxns r c)).InitRunning q (j + 1) := by
  obtain ⟨rfl, hg, hscreen⟩ := h
  rw [Lcd.takeAll_cmdTxns_withinInit hr hg hc.1]
  have hadvance : (l.afterReady l.initAt).initAdvance c = l.initAt + 1 :=
    (Lcd.initAdvance_next_iff c (l.afterReady l.initAt) rfl hc.1).mpr hc.2
  have ha : (l.afterReady l.initAt).admitsCommand c = true :=
    (Lcd.admitsCommand_gated_iff c (l.afterReady l.initAt) rfl).mpr (.inr hc)
  refine ⟨Lcd.takeAnyCommand_initAt.trans hadvance, Lcd.takeAnyCommand_gated, fun k hk => ?_⟩
  cases hv : l.view with
  | known k₀ =>
    obtain ⟨k', hk', hq⟩ := hknown k₀ (hscreen k₀ hv)
    rw [Lcd.takeAnyCommand_view_of_known ha hv hk'] at hk
    cases hk
    exact hq
  | unknown =>
    rw [Lcd.takeAnyCommand_view_of_unknown ha hv] at hk
    exact hrevived _ k hadvance hk

/-- A write of INIT that is neither its clear nor its last ends no unknown view. -/
theorem Lcd.revived_ne_known {c : Byte} {k : Screen} (hclear : c ≠ lcdClear) (hlast : c ≠ lcdDispOnCb) :
    l.revived cols c ≠ .known k := by
  rw [Lcd.revived_eq_unknown (.inl hclear) (.inl hlast)]
  nofun

/-- The screens that INIT's clear leaves, which lack only the display control. -/
def Screen.InitCleared (cols : Nat) (k : Screen) : Prop := ∃ k₀ : Screen, k = (k₀.fset8TwoLine.entryInc).clear cols

theorem Screen.InitCleared.dispOnCb {k : Screen} (h : k.InitCleared cols) :
    k.dispOnCb = Screen.configured cols := by
  obtain ⟨k₀, rfl⟩ := h
  rfl

/-- INIT's own clear ends an unknown view in such a screen (R153, R159; log entry 9). -/
theorem Lcd.initCleared_of_revived {k : Screen} (h6 : l.initAdvance lcdClear = 6)
    (hk : l.revived cols lcdClear = .known k) : k.InitCleared cols := by
  cases hd : l.initDone with
  | true =>
    rw [Lcd.revived_clear hd] at hk
    cases hk
    exact ⟨l.afterClear cols, by simp [Lcd.afterClear, h6, Screen.clear, Screen.entryInc, Screen.fset8TwoLine]⟩
  | false =>
    rw [Lcd.revived_eq_unknown (.inr hd) (.inl (by decide))] at hk
    cases hk

/-- INIT on a live LCD up to its last write. -/
theorem Lcd.takeAll_init_upTo_clear {r1 r2 r3 : Read} (h1 : r1.Live) (h2 : r2.Live) (h3 : r3.Live) :
    (l.takeAll cols ([.wrcmd lcdFset8, .wrcmd lcdFset8, .wrcmd lcdFset8] ++ cmdTxns r1 lcdFset8TwoLine ++
      cmdTxns r2 lcdEntryInc ++ cmdTxns r3 lcdClear)).InitRunning (Screen.InitCleared cols) 6 := by
  simp only [Lcd.takeAll_append]
  have hfsets := Lcd.takeAll_fsets_initRunning (cols := cols) (l := l)
  have hmode := hfsets.next (cols := cols) (q := fun k => ∃ k₀ : Screen, k = k₀.fset8TwoLine) (c := lcdFset8TwoLine) h1
    (by decide) (fun k _ => ⟨_, rfl, k, rfl⟩)
    (fun _ _ _ hk => absurd hk (Lcd.revived_ne_known (by decide) (by decide)))
  have hentry := hmode.next (cols := cols) (q := fun k => ∃ k₀ : Screen, k = k₀.fset8TwoLine.entryInc)
    (c := lcdEntryInc) h2 (by decide) (by rintro _ ⟨k₀, rfl⟩; exact ⟨_, rfl, k₀, rfl⟩)
    (fun _ _ _ hk => absurd hk (Lcd.revived_ne_known (by decide) (by decide)))
  exact hentry.next h3 (by decide) (by rintro _ ⟨k₀, rfl⟩; exact ⟨_, rfl, k₀, rfl⟩)
    fun _ _ h6 hk => Lcd.initCleared_of_revived h6 hk

end

/-- Settles O37: INIT's clear leaves a view that lacks only the display control, or an unknown one, and the last write
makes R158's view of both. -/
theorem initConfiguresView : Obligations.InitConfiguresView := by
  intro cols l r1 r2 r3 r4 h1 h2 h3 h4
  rw [initTxns, Lcd.takeAll_append]
  obtain ⟨h6, hg, hscreen⟩ := Lcd.takeAll_init_upTo_clear (cols := cols) (l := l) h1 h2 h3
  rw [Lcd.takeAll_cmdTxns_withinInit h4 hg (by omega)]
  constructor
  · rw [Lcd.takeAnyCommand_initDone, Bool.or_eq_true]
    exact .inr ((Lcd.completesInit_iff _ _).mpr ⟨rfl, h6, rfl⟩)
  · exact Lcd.takeAnyCommand_last_view rfl h6 fun k hk => (hscreen k hk).dispOnCb

/-! ## A text written after a clear (R121, R156) -/

/-- The screen `k` cleared, and the text `cs` written to it. -/
def Screen.showing (cols : Nat) (cs : List Byte) (k : Screen) : Screen :=
  { k with
    line1 := cs.map .byte ++ List.replicate (cols - cs.length) .blank
    line2 := List.replicate cols .blank
    cur := some (.one, cs.length) }

theorem Screen.showing_nil (cols : Nat) (k : Screen) : k.showing cols [] = k.clear cols := rfl

/-- The next character goes into the first blank. -/
theorem Screen.put_showing {cols : Nat} {cs : List Byte} {k : Screen} (d : Byte) (he : k.entry = .incrementNoShift)
    (hroom : cs.length < cols) : (k.showing cols cs).put cols d = some (k.showing cols (cs ++ [d])) := by
  have hblanks : cols - cs.length = cols - (cs.length + 1) + 1 := by omega
  have hline : (k.showing cols cs).line1.set cs.length (.byte d) = (k.showing cols (cs ++ [d])).line1 := by
    simp [Screen.showing, hblanks, List.replicate_succ]
  rw [Screen.put_one d (k := k.showing cols cs) he rfl hroom, hline]
  simp [Screen.showing]

/-- An LCD that has had a complete INIT and shows the text `cs` on the screen `k`. -/
structure Lcd.Shows (cols : Nat) (k : Screen) (cs : List Byte) (l : Lcd) : Prop where
  initDone : l.initDone = true
  view : l.view = .known (k.showing cols cs)

section
variable {cols : Nat} {k : Screen} {cs : List Byte} {l : Lcd} (he : k.entry = .incrementNoShift)
include he

theorem Lcd.Shows.dat {r : Read} (h : l.Shows cols k cs) (hr : r.Live) (d : Byte) (hroom : cs.length < cols) :
    (l.takeAll cols (datTxns r d)).Shows cols k (cs ++ [d]) := by
  obtain ⟨n, hn⟩ := Lcd.takeAll_datTxns (cols := cols) (l := l) hr d
  rw [hn]
  refine ⟨h.initDone, (Lcd.takeData_view_of_known (l := l.afterReady n) d h.view rfl h.initDone).trans ?_⟩
  simp only [View.update, Screen.put_showing d he hroom]

/-- A whole text, character by character. -/
theorem Lcd.Shows.text {rs : List Read} {ds : List Byte} (h : l.Shows cols k cs) (hrs : ∀ r ∈ rs, r.Live)
    (hlen : rs.length = ds.length) (hroom : cs.length + ds.length ≤ cols) :
    (l.takeAll cols (textTxns rs ds)).Shows cols k (cs ++ ds) := by
  induction ds generalizing l cs rs with
  | nil =>
    obtain rfl := List.length_eq_zero_iff.mp hlen
    rw [List.append_nil]
    exact h
  | cons d ds ih =>
    obtain ⟨r, rs, rfl⟩ := List.exists_cons_of_length_eq_add_one hlen
    obtain ⟨hr, hrs⟩ := List.forall_mem_cons.mp hrs
    rw [List.length_cons] at hroom
    have hrest := ih (h.dat he hr d (by omega)) hrs (Nat.succ.inj hlen) (by rw [List.length_append]; simp; omega)
    rwa [List.append_assoc, ← Lcd.takeAll_append] at hrest

end

/-! ## A complete RNDR (R123, R158) -/

section
variable {cols : Nat} {l : Lcd} {r : Read}

/-- A clear after a complete INIT leaves a cleared screen, of a known view the same in all else, with INIT's entry mode
of an unknown one (R153, R159). -/
theorem Lcd.shows_clear (hd : l.initDone = true) (hr : r.Live) :
    (∀ k, l.view = .known k → (l.takeAll cols (cmdTxns r lcdClear)).Shows cols k []) ∧
    (l.view = .unknown → ∃ k, k.entry = .incrementNoShift ∧ (l.takeAll cols (cmdTxns r lcdClear)).Shows cols k []) := by
  obtain ⟨n, hn⟩ := Lcd.takeAll_cmdTxns (cols := cols) (l := l) hr lcdClear
  have ha : (l.afterReady n).admitsCommand lcdClear = true :=
    (Lcd.admitsCommand_gated_iff _ _ rfl).mpr (.inl hd)
  have hdone : (l.takeAll cols (cmdTxns r lcdClear)).initDone = true := by
    rw [hn, Lcd.takeAnyCommand_initDone, Bool.or_eq_true]
    exact .inl hd
  refine ⟨fun k hv => ⟨hdone, ?_⟩, fun hv => ⟨(l.afterReady n).afterClear cols, rfl, hdone, ?_⟩⟩
  · rw [hn, Screen.showing_nil]
    exact Lcd.takeAnyCommand_view_of_known ha hv rfl
  · rw [hn]
    exact (Lcd.takeAnyCommand_view_of_unknown ha hv).trans (Lcd.revived_clear hd)

theorem Lcd.Shows.ddramL2 {k : Screen} {cs : List Byte} (h : l.Shows cols k cs) (hr : r.Live) :
    (l.takeAll cols (cmdTxns r lcdDdramL2)).view = .known (k.showing cols cs).ddramL2 := by
  obtain ⟨n, hn⟩ := Lcd.takeAll_cmdTxns (cols := cols) (l := l) hr lcdDdramL2
  have ha : (l.afterReady n).admitsCommand lcdDdramL2 = true :=
    (Lcd.admitsCommand_gated_iff _ _ rfl).mpr (.inl h.initDone)
  rw [hn]
  exact Lcd.takeAnyCommand_view_of_known ha h.view rfl

end

/-- RNDR is a clear, one text of the label and the packet, and the move to line 2. -/
theorem rndrTxns_eq_text (p : Packet) (r0 : Read) {rl : List Read} (q0 q1 q2 q3 r1 : Read) (hlen : rl.length = 8) :
    rndrTxns p r0 rl q0 q1 q2 q3 r1 =
      cmdTxns r0 lcdClear ++ textTxns (rl ++ [q0, q1, q2, q3]) (label ++ [p.p0, p.p1, p.p2, p.p3]) ++
        cmdTxns r1 lcdDdramL2 := by
  have htext : textTxns (rl ++ [q0, q1, q2, q3]) (label ++ [p.p0, p.p1, p.p2, p.p3]) =
      textTxns rl label ++ textTxns [q0, q1, q2, q3] [p.p0, p.p1, p.p2, p.p3] := by
    rw [textTxns, List.zipWith_append (hlen.trans rfl), List.flatten_append]
    rfl
  rw [htext]
  simp [rndrTxns, textTxns]

/-- What follows RNDR's clear, from any cleared screen with INIT's entry mode. -/
theorem Lcd.takeAll_rndrTxns_view {cols : Nat} {l : Lcd} {k : Screen} {p : Packet} {r0 : Read} {rl : List Read}
    {q0 q1 q2 q3 r1 : Read} (hcols : 12 ≤ cols) (hlen : rl.length = 8)
    (hlive : ∀ r ∈ r0 :: rl ++ [q0, q1, q2, q3, r1], r.Live) (he : k.entry = .incrementNoShift)
    (hclear : (l.takeAll cols (cmdTxns r0 lcdClear)).Shows cols k []) :
    (l.takeAll cols (rndrTxns p r0 rl q0 q1 q2 q3 r1)).view =
      .known (k.showing cols (label ++ [p.p0, p.p1, p.p2, p.p3])).ddramL2 := by
  have htext : ∀ r ∈ rl ++ [q0, q1, q2, q3], r.Live := fun r hr => hlive r (by simp at hr ⊢; tauto)
  rw [rndrTxns_eq_text p r0 q0 q1 q2 q3 r1 hlen, Lcd.takeAll_append, Lcd.takeAll_append]
  exact (hclear.text he htext (by simp [hlen, label]) (by simpa [label] using hcols)).ddramL2 (hlive r1 (by simp))

/-- Settles O38: the clear leaves a blank screen of either view, and the label and the packet are one text on it. -/
theorem rndrShowsCommandScreen : Obligations.RndrShowsCommandScreen := by
  intro cols l p r0 rl q0 q1 q2 q3 r1 hcols hd hlen hlive
  obtain ⟨hknown, hunknown⟩ := Lcd.shows_clear (cols := cols) hd (hlive r0 (by simp))
  constructor
  · intro k hv he
    exact Lcd.takeAll_rndrTxns_view hcols hlen hlive he (hknown k hv)
  · intro hv
    obtain ⟨k, he, hclear⟩ := hunknown hv
    exact ⟨_, Lcd.takeAll_rndrTxns_view hcols hlen hlive he hclear, rfl, rfl, rfl⟩

end Sys2Proof.Machine
end

section
/-! What never stops or gives way: every instruction but the reserved codes runs (R160), the two loops that wait for the
environment (R161, R162), and the rights of the two contexts (R171). -/

namespace Sys2Proof.Machine

/-! ## No fault (R160) -/

/-- A request is accepted by an idle sequencer, taken up by a sequencer with its frame on top, and left waiting by any
other (R142). -/
theorem exec_answers_of_request {i : Instr} {r : OpName × (List Frame → State → State)} (hr : requestOf i = some r)
    (s : State) : ∃ t, exec i s = .next t := by
  cases hs : s.seq with
  | nil => exact ⟨_, exec_request hs hr⟩
  | cons f rest =>
    by_cases hf : ∃ n, frameInstr n f = some i
    · obtain ⟨n, hn⟩ := hf
      exact ⟨_, exec_frameInstr hs hn⟩
    · exact ⟨s, exec_waits hs hr (not_exists.mp hf)⟩

/-- Settles O9: the requests answer on every stack, and the LCD's rows and the receive step ask nothing of the state. -/
theorem onlyReservedCodesStop : Obligations.OnlyReservedCodesStop := by
  intro i s hB hC hD hE hF
  cases i
  case reservedB => exact absurd rfl hB
  case reservedC => exact absurd rfl hC
  case reservedD => exact absurd rfl hD
  case reservedE => exact absurd rfl hE
  case reservedF => exact absurd rfl hF
  case rdyw | cmdi | cmd | dat | init | wint | rndr | txb | xpkt | clrf | disp => exact exec_answers_of_request rfl s
  case lcdWrcmd | lcdWrdata | lcdRdstat | fset8 | fset8TwoLine | entryInc | clear | dispOnCb | ddramL2 | rxb =>
    exact ⟨_, rfl⟩

/-! ## The loop of ready-wait (R161) -/

/-- Settles O59: the pulses of the busy samples lead from `W3` back to `W3`, with `E` as low as before. -/
theorem stuckLcdHangsReadyWait : Obligations.StuckLcdHangsReadyWait := by
  intro s busy bs rest ts hs hl hrw he hbusy hsamples hturns
  have hstart : s = s.running (.rdyw .w3 :: rest) (List.replicate (4 * busy.length) .seq ++ ts) (busy ++ bs) :=
    State.running_of_fields hl hs hturns hsamples
  have hloop := steps_busySamples s rest ts bs busy hbusy hrw
  rw [← hstart] at hloop
  refine ⟨_, hloop, ?_⟩
  simp only [State.running, State.sampled, he, hs, hl, Bool.false_and]

/-! ## The loops of TXB and XPKT (R162) -/

/-- What `k` polls that said "not ready" leave, with the answers `bs` to come. -/
def State.polledInVain (k : Nat) (bs : List Bool) (s : State) : State :=
  { s with txhw := { s.txhw with given := bs }, trace := s.trace ++ List.replicate k (.txPoll false) }

/-- As long as the answers say "not ready" the loop stays where it is. -/
theorem PollLoop.leads_wait {i : Instr} {wait ready : Frame} (h : PollLoop i wait ready) (rest : List Frame) {s : State}
    {k : Nat} {bs : List Bool} (hpolls : s.txhw.given = List.replicate k false ++ bs) :
    Leads (State.goto wait rest) s k k [] (State.goto wait rest) (s.polledInVain k bs) := by
  induction k generalizing s with
  | zero =>
    have hnone : s.polledInVain 0 bs = s := by
      subst hpolls
      simp only [State.polledInVain, List.replicate_zero, List.append_nil]
    exact (Leads.refl _ s).congr rfl rfl hnone
  | succ k ih =>
    have hfirst : s.txhw.given = false :: (List.replicate k false ++ bs) := hpolls
    have hpoll := State.pollTx_of_given hfirst
    have others := (h.leads_poll rest hfirst).trans (ih (s := s.pollTx) (by rw [hpoll]))
    refine others.congr (by omega) (by omega) ?_
    simp only [hpoll, State.polledInVain, List.append_assoc]
    rfl

/-- The loop stays where it is from a state that is there. -/
theorem PollLoop.steps_wait {i : Instr} {wait ready : Frame} (h : PollLoop i wait ready) {rest : List Frame} {s : State}
    {k : Nat} {bs : List Bool} {ts : List Turn} (hs : s.seq = wait :: rest) (hl : s.lcdIn = none)
    (hpolls : s.txhw.given = List.replicate k false ++ bs) (hturns : s.SeqTurns k ts) :
    steps k s = .next { s.polledInVain k bs with turns := { s.turns with given := ts } } := by
  obtain ⟨fs, hrun⟩ := h.leads_wait rest hpolls (wait :: rest) ts s.samples.given
  have hstart : s = s.running (wait :: rest) (List.replicate k .seq ++ ts) s.samples.given :=
    State.running_of_fields hl hs hturns rfl
  have hthere : (s.running (wait :: rest) (List.replicate k .seq ++ ts) s.samples.given).goto wait rest = s := by
    rw [← hstart]
    exact State.goto_of_seq hs
  refine (congrArg (steps k) hthere.symm).trans (hrun.trans ?_)
  simp only [State.goto, State.setSeq, State.running, State.polledInVain, hs, hl]

/-- Settles O60: both polls are the same loop. -/
theorem neverReadyHangsTransmit : Obligations.NeverReadyHangsTransmit := by
  intro s k bs rest b ts hs hl hpolls hturns
  rcases hs with htxb | hxpkt
  · exact (txb_pollLoop b).steps_wait htxb hl hpolls hturns
  · exact xpkt_pollLoop.steps_wait hxpkt hl hpolls hturns

/-! ## The rights of the two contexts (R171) -/

/-- `t` has the packet and the receive index of `s`. -/
structure State.SameBuffer (t s : State) : Prop where
  pkt   : t.pkt = s.pkt
  rxidx : t.rxidx = s.rxidx

theorem State.SameBuffer.trans {s t u : State} (h₁ : u.SameBuffer t) (h₂ : t.SameBuffer s) : u.SameBuffer s :=
  ⟨h₁.pkt.trans h₂.pkt, h₁.rxidx.trans h₂.rxidx⟩

theorem State.InternalOf.sameBuffer {s t : State} (h : t.InternalOf s) : t.SameBuffer s := by
  obtain ⟨he, -⟩ := h
  constructor <;> rw [he]

theorem Frame.lineAction_sameBuffer (f : Frame) (s : State) : (f.lineAction s).SameBuffer s := by
  unfold Frame.lineAction
  split <;> exact ⟨rfl, rfl⟩

/-- No visible action of the sequencer writes the packet or its index. -/
theorem Frame.action_sameBuffer (f : Frame) (s : State) : (f.action s).SameBuffer s := by
  unfold Frame.action
  split
  case h_17 => exact f.lineAction_sameBuffer s
  all_goals exact ⟨rfl, rfl⟩

theorem frameStep_sameBuffer (f : Frame) (rest : List Frame) (s : State) : (frameStep f rest s).SameBuffer s :=
  (frameStep_internal rest s f).sameBuffer.trans (f.action_sameBuffer s)

theorem State.wake_takeTurn_sameBuffer (s : State) : s.takeTurn.wake.SameBuffer s :=
  s.takeTurn.wake_internal.sameBuffer.trans ⟨rfl, rfl⟩

/-- Only the receive agent's step writes the packet or its index. -/
theorem step_sameBuffer {s t : State} (h : step s = .next t) :
    t.SameBuffer s ∨ (s.lcdIn = none ∧ ∃ b, s.nextTurn = .rx b) := by
  rcases step_effect h with ⟨w, -, rfl⟩ | ⟨hl, b, hb, -⟩ | ⟨-, -, hq⟩
  · exact .inl ⟨rfl, rfl⟩
  · exact .inr ⟨hl, b, hb⟩
  · refine .inl (.trans ?_ s.wake_takeTurn_sameBuffer)
    rcases hq with ⟨f, rest, -, rfl⟩ | ⟨-, -, i, op, call, hr, rfl⟩ | ⟨-, rfl | rfl⟩
    · exact frameStep_sameBuffer f rest _
    · exact (accept_internal hr).sameBuffer.trans ⟨rfl, rfl⟩
    · exact ⟨rfl, rfl⟩
    · exact ⟨rfl, rfl⟩

/-- Settles O45: the foreground's part is what leaves the buffer and cannot raise the flag (R23), the interrupt's is the
one store of a byte. -/
theorem contextRights : Obligations.ContextRights := by
  intro s t h
  refine ⟨fun hturn => ?foreground, fun hl b hb => ?interrupt⟩
  case foreground =>
    have not_rx : ¬(s.lcdIn = none ∧ ∃ b, s.nextTurn = .rx b) := by
      rintro ⟨hl, b, hb⟩
      simp [hl, hb] at hturn
    have hbuffer : t.SameBuffer s := (step_sameBuffer h).resolve_right not_rx
    refine ⟨hbuffer.pkt, hbuffer.rxidx, fun ht => ?_⟩
    by_contra hs
    obtain ⟨hl, -, hrx⟩ := (readyChangesOnlyByRxbAndClrf s t h).1 (Bool.eq_false_of_not_eq_true hs) ht
    exact not_rx ⟨hl, hrx⟩
  case interrupt =>
    rw [step_byte hl hb] at h
    cases h
    exact ⟨rfl, s.takeTurn.readyAfterByte_of_ready, fun j hj => s.pkt.get_set_other b hj⟩

end Sys2Proof.Machine
end

section
/-! The sequencer's first step after reset (R141, R181), and a packet's round trip through MAIN's loop (R140, R195). -/

namespace Sys2Proof.Machine

/-! ## The first micro-step (R141, R181) -/

section
variable {s : State} (rest : List Frame) (hl : s.lcdIn = none) (hturn : s.nextTurn = .seq)
include hl hturn

/-- INIT's first micro-step where `T_INIT_0` is configured: the delay, and on to the first CMDI (R120). -/
theorem step_callInit_delayed {d : Nat} (hd : s.cfg.tInit0 = some d) :
    step (callInit rest s) = .next (initFirst rest (s.takeTurn.delay d)) := by
  have hcall : callInit rest s = s.goto (.init .i0) rest := by simp only [callInit, hd]
  have hmicro : initMicro .i0 rest (s.goto (.init .i0) rest).takeTurn = initFirst rest (s.takeTurn.delay d) := by
    simp only [initMicro, State.takeTurn_cfg, State.goto, State.setSeq_cfg, hd]
    rfl
  rw [hcall, step_frame (s := s.goto (.init .i0) rest) hl hturn rfl rfl, frameStep, hmicro]

/-- Where it is not, that of the first CMDI (R112). -/
theorem step_callInit_undelayed (hd : s.cfg.tInit0 = none) :
    step (callInit rest s) =
      .next (((s.takeTurn.setV lcdFset8).driveRs false).goto (.cmdi .c1 lcdFset8) (.init .i1 :: rest)) := by
  have hcall : callInit rest s = (s.setV lcdFset8).goto (.cmdi .c0 lcdFset8) (.init .i1 :: rest) := by
    simp only [callInit, hd, initFirst, callCmdi]
  rw [hcall]
  exact step_frame (s := (s.setV lcdFset8).goto (.cmdi .c0 lcdFset8) (.init .i1 :: rest)) hl hturn rfl rfl

end

/-- Settles O49: MAIN's frame wakes to INIT, whose first visible action is its optional delay or, without one, that of
the first CMDI. -/
theorem firstMicroStepIsInit : Obligations.FirstMicroStepIsInit := by
  intro c s hauto hreset hturn
  have hcfg : s.cfg = c := congrArg State.cfg hreset
  have hl : s.lcdIn = none := congrArg State.lcdIn hreset
  have htrace : s.trace = [] := congrArg State.trace hreset
  have hseq : s.seq = [.main .m0] := by
    obtain ⟨-, -, -, -, -, -, hmain, -⟩ := resetValues c
    exact (congrArg State.seq hreset).trans (hmain hauto)
  have hwake : s.wake = callInit [.main .m0] (s.emit (.opStart .init)) := by
    rw [State.wake, hseq]
    rfl
  rw [← step_wake hl hturn, hwake]
  subst hcfg
  cases hd : s.cfg.tInit0 with
  | some d =>
    refine ⟨_, step_callInit_delayed (s := s.emit (.opStart .init)) [.main .m0] hl hturn hd, ?_, rfl⟩
    change s.trace ++ [.opStart .init] ++ [.delay d] = _
    rw [htrace, List.nil_append]
  | none =>
    refine ⟨_, step_callInit_undelayed (s := s.emit (.opStart .init)) [.main .m0] hl hturn hd, ?_, rfl⟩
    change s.trace ++ [.opStart .init] ++ [.rs false] = _
    rw [htrace, List.nil_append]

/-! ## The serial output of a run's events (R12) -/

theorem serialOutput_append (xs ys : List Event) : serialOutput (xs ++ ys) = serialOutput xs ++ serialOutput ys := by
  induction xs with
  | nil => rfl
  | cons ev xs ih =>
    cases ev with
    | txWrite b => exact congrArg (b :: ·) ih
    | _ => exact ih

/-- Events none of which hands a byte to the transmitter. -/
theorem serialOutput_eq_nil {evs : List Event} (h : ∀ b, .txWrite b ∉ evs) : serialOutput evs = [] := by
  induction evs with
  | nil => rfl
  | cons ev evs ih =>
    have hrest := ih fun b hb => h b (List.mem_cons_of_mem ev hb)
    cases ev with
    | txWrite b => exact absurd List.mem_cons_self (h b)
    | _ => exact hrest

/-- A ready-wait hands nothing to the transmitter, nor does a gated write. -/
theorem txWrite_notMem_rdywEvents (tp : Nat) (r : Read) (b : Byte) : .txWrite b ∉ rdywEvents tp r := by
  simp [rdywEvents, sampleEvents]

theorem txWrite_notMem_cmdEvents (tp : Nat) (r : Read) (c b : Byte) : .txWrite b ∉ cmdEvents tp r c := by
  simp [cmdEvents, writeEvents, txWrite_notMem_rdywEvents]

theorem txWrite_notMem_datEvents (tp : Nat) (r : Read) (d b : Byte) : .txWrite b ∉ datEvents tp r d := by
  simp [datEvents, writeEvents, txWrite_notMem_rdywEvents]

/-- A text hands nothing to the transmitter, by induction on its reads. -/
theorem txWrite_notMem_textEvents (tp : Nat) (rs : List Read) (ds : List Byte) (b : Byte) :
    .txWrite b ∉ textEvents tp rs ds := by
  induction rs generalizing ds with
  | nil => simp [textEvents]
  | cons r rs ih =>
    cases ds with
    | nil => simp [textEvents]
    | cons d ds =>
      have hsplit : textEvents tp (r :: rs) (d :: ds) = datEvents tp r d ++ textEvents tp rs ds := rfl
      simp [hsplit, txWrite_notMem_datEvents, ih ds]

/-- Nor does a RNDR. -/
theorem serialOutput_rndrEvents (tp : Nat) (p : Packet) (r0 : Read) (rl : List Read) (q0 q1 q2 q3 r1 : Read) :
    serialOutput (rndrEvents tp p r0 rl q0 q1 q2 q3 r1) = [] :=
  serialOutput_eq_nil fun b => by
    simp [rndrEvents, packetEvents, txWrite_notMem_cmdEvents, txWrite_notMem_datEvents, txWrite_notMem_textEvents]

/-- Polls hand nothing to the transmitter, so one byte of XPKT is one byte of the serial output. -/
theorem serialOutput_echoEvents (k : Nat) (i : BitVec 2) (b : Byte) : serialOutput (echoEvents k i b) = [b] := by
  have hpolls : serialOutput (pollEvents k) = [] := serialOutput_eq_nil fun b => by simp [pollEvents]
  rw [echoEvents, serialOutput_append, hpolls]
  rfl

theorem serialOutput_xpktEvents (p : Packet) (k0 k1 k2 k3 : Nat) :
    serialOutput (xpktEvents p k0 k1 k2 k3) = [p.p0, p.p1, p.p2, p.p3] := by
  simp only [xpktEvents, serialOutput_append, serialOutput_echoEvents]
  rfl

/-! ## A packet received (R22, R55, R130) -/

/-- On its turn the receive agent stores the byte. -/
theorem steps_byte (s : State) (fs : List Frame) (b : Byte) (ts : List Turn) (bs : List Byte) (k : Nat) :
    steps (k + 1) (s.running fs (.rx b :: ts) bs) = steps k ((s.storeByte b).running fs ts bs) := by
  have hstep : step (s.running fs (.rx b :: ts) bs) = .next ((s.storeByte b).running fs ts bs) := step_byte rfl rfl
  simp only [steps, hstep]

/-- What four bytes received at a packet boundary leave. -/
def State.packetReceived (b0 b1 b2 b3 : Byte) (s : State) : State :=
  { s with
    pkt := ⟨b0, b1, b2, b3⟩, rxidx := 0, ready := true
    trace := s.trace ++
      [.rxByte b0 0 s.ready, .rxByte b1 1 s.ready, .rxByte b2 2 s.ready, .rxByte b3 3 true] }

/-- The same byte by byte. -/
theorem State.packetReceived_eq (b0 b1 b2 b3 : Byte) {s : State} (hindex : s.rxidx = 0) :
    s.packetReceived b0 b1 b2 b3 = (((s.storeByte b0).storeByte b1).storeByte b2).storeByte b3 := by
  simp [State.packetReceived, State.storeByte, State.indexAfterByte, State.readyAfterByte, Packet.set, hindex]

/-- Receiving is no output. -/
theorem serialOutput_packetReceived (b0 b1 b2 b3 : Byte) (s : State) :
    serialOutput (s.packetReceived b0 b1 b2 b3).trace = serialOutput s.trace :=
  (serialOutput_append _ _).trans (List.append_nil _)

/-- A packet's four receive steps. -/
theorem steps_packet {s : State} {b0 b1 b2 b3 : Byte} {ts : List Turn} (hl : s.lcdIn = none) (hindex : s.rxidx = 0)
    (hturns : s.turns.given = [.rx b0, .rx b1, .rx b2, .rx b3] ++ ts) :
    steps 4 s = .next ((s.packetReceived b0 b1 b2 b3).running s.seq ts s.samples.given) := by
  have hstart : s = s.running s.seq _ s.samples.given := State.running_of_fields hl rfl hturns rfl
  rw [State.packetReceived_eq b0 b1 b2 b3 hindex]
  calc steps 4 s
    _ = steps 3 ((s.storeByte b0).running s.seq (.rx b1 :: .rx b2 :: .rx b3 :: ts) s.samples.given) :=
      (congrArg (steps 4) hstart).trans (steps_byte s _ b0 _ _ 3)
    _ = steps 2 (((s.storeByte b0).storeByte b1).running s.seq (.rx b2 :: .rx b3 :: ts) s.samples.given) :=
      steps_byte _ _ b1 _ _ 2
    _ = steps 1 ((((s.storeByte b0).storeByte b1).storeByte b2).running s.seq (.rx b3 :: ts) s.samples.given) :=
      steps_byte _ _ b2 _ _ 1
    _ = _ := steps_byte _ _ b3 _ _ 0

/-! ## The round trip (R195) -/

/-- What a packet served adds to the serial output is the packet. -/
theorem serialOutput_packetServed (r0 : Read) (rl : List Read) (q0 q1 q2 q3 r1 : Read) (k0 k1 k2 k3 : Nat)
    (ps : List Bool) (s : State) :
    serialOutput (s.packetServed r0 rl q0 q1 q2 q3 r1 k0 k1 k2 k3 ps).trace =
      serialOutput s.trace ++ [s.pkt.p0, s.pkt.p1, s.pkt.p2, s.pkt.p3] := by
  simp only [State.packetServed, serialOutput_append, serialOutput_rndrEvents, serialOutput_xpktEvents, serialOutput,
    List.nil_append, List.append_nil]

/-- The end of one DISP and the start of the next are no output. -/
theorem serialOutput_mainNext (rest : List Frame) (s : State) :
    serialOutput (mainNext rest (s.emit (.opDone .disp))).trace = serialOutput s.trace := by
  simp [mainNext, callDisp, State.goto, serialOutput_append, serialOutput]

/-- A packet served in MAIN's loop: DISP ends and the next one starts. -/
theorem steps_mainServesPacket {s : State} {r0 q0 q1 q2 q3 r1 : Read} {rl : List Read} {k0 k1 k2 k3 : Nat}
    {bs : List Byte} {ps : List Bool} {ts : List Turn} (hs : s.seq = [.disp .l0, .main .m1]) (hl : s.lcdIn = none)
    (hf : s.ready = true) (hlen : rl.length = 8) (hreads : s.Reads (r0 :: rl ++ [q0, q1, q2, q3, r1]) bs)
    (hpolls : s.Polls [k0, k1, k2, k3] ps)
    (hturns : s.SeqTurns (1 + rndrTurns (r0 :: rl ++ [q0, q1, q2, q3, r1]) + xpktTurns [k0, k1, k2, k3] + 1) ts) :
    ∃ fs, steps (1 + rndrSteps (r0 :: rl ++ [q0, q1, q2, q3, r1]) + xpktTurns [k0, k1, k2, k3] + 1) s =
      .next (mainNext [] (((s.packetServed r0 rl q0 q1 q2 q3 r1 k0 k1 k2 k3 ps).running fs ts bs).emit
        (.opDone .disp))) := by
  have hcount (m p : Nat) : 1 + (4 + m) + p + 1 = 1 + 4 + p + 1 + m := by omega
  rw [rndrTurns, hcount] at hturns
  rw [rndrSteps, hcount]
  obtain ⟨fs, hrun⟩ := leads_disp [.main .m1] hf hreads.1 hlen hpolls s.seq ts bs
  have hcall : callDisp [.main .m1] s = s := by
    rw [callDisp, State.goto, ← hs]
    rfl
  refine ⟨fs, ?_⟩
  rw [← State.running_of_fields hl rfl hturns hreads.2, hcall] at hrun
  exact hrun

/-- Settles O51: the four bytes are a packet, and DISP, which finds the flag set, renders, echoes and clears. -/
theorem roundTripEcho : Obligations.RoundTripEcho := by
  intro s b0 b1 b2 b3 r0 rl q0 q1 q2 q3 r1 k0 k1 k2 k3 bs ps ts hs hl hindex _ hlen hreads hpolls hturns
  rw [List.append_assoc] at hturns
  have hreceive := steps_packet hl hindex hturns
  obtain ⟨fs, hserve⟩ :=
    steps_mainServesPacket (s := (s.packetReceived b0 b1 b2 b3).running s.seq _ _) hs rfl rfl hlen hreads hpolls rfl
  rw [Nat.add_comm 4]
  refine ⟨_, (steps_add _ hreceive).trans hserve, rfl, rfl, rfl, rfl, ?output, rfl⟩
  case output =>
    exact (serialOutput_mainNext [] _).trans ((serialOutput_packetServed r0 rl q0 q1 q2 q3 r1 k0 k1 k2 k3 ps _).trans
      (congrArg (· ++ [b0, b1, b2, b3]) (serialOutput_packetReceived b0 b1 b2 b3 s)))

end Sys2Proof.Machine
end
